-- ==== Sys2Proof/Word.lean ====
section
/-! DEFINITION. The words of the Norvelan 2432: bytes, numbered things (zones, stations, looks, fade codes) and the two lanes. -/

namespace Sys2Proof

/-- A byte of a frame, of the Config Store or of the local port. -/
abbrev Byte := BitVec 8

/-- A 16-bit field: a sequence, a checksum, the start counter. -/
abbrev Word16 := BitVec 16

/-- A 32-bit field: a stamp, a counter, a reading of the time base. -/
abbrev Word32 := BitVec 32

/-- A lighting zone, 0..31 (00, Terms). -/
abbrev Zone := Fin 32

/-- A station number, 0..31 (00, Terms). -/
abbrev Station := Fin 32

/-- A look number, 0..15 (00, Terms). -/
abbrev Look := Fin 16

/-- A fade code, 0..15 (R150). -/
abbrev FadeCode := Fin 16

/-- A head, 0..3 (R145). -/
abbrev Head := Fin 4

/-- A channel or PWM output, 0..11: head h drives 3h, 3h + 1 and 3h + 2 (R145). -/
abbrev Channel := Fin 12

/-- An input line, 0..7 (R133). -/
abbrev Line := Fin 8

/-- A set of zones in the layout of the Formats section: bit z stands for zone z (12.4). -/
abbrev ZoneSet := BitVec 32

/-- A set of stations, laid out as a zone set is (12.4). -/
abbrev StationSet := BitVec 32

/-- The set that holds one zone or one station. -/
def oneOf (n : Fin 32) : BitVec 32 := BitVec.ofNat 32 (2 ^ n.val)

/-- The two shared bus lanes. -/
inductive Lane
  | A
  | B
  deriving DecidableEq, Repr

/-- The lane that is not this one. -/
def Lane.other : Lane → Lane
  | .A => .B
  | .B => .A

/-- One value for each lane. -/
structure PerLane (α : Type) where
  a : α
  b : α
  deriving DecidableEq, Repr

/-- The value of lane `L`. -/
def PerLane.get {α : Type} (p : PerLane α) : Lane → α
  | .A => p.a
  | .B => p.b

/-- The values with lane `L`'s replaced. -/
def PerLane.put {α : Type} (p : PerLane α) (L : Lane) (x : α) : PerLane α :=
  match L with
  | .A => { p with a := x }
  | .B => { p with b := x }

/-- A set of lanes. -/
abbrev LaneSet := PerLane Bool

/-- The set that holds one lane. -/
def oneLane (L : Lane) : LaneSet := PerLane.put ⟨false, false⟩ L true

/-- The union of two lane sets. -/
def laneUnion (x y : LaneSet) : LaneSet := ⟨x.a || y.a, x.b || y.b⟩

end Sys2Proof
end

