-- ==== Sys2Proof/Syntax.lean ====
section
/-! DEFINITION. The commands the block takes: one constructor for each row of spec/opcode_table.json, with the row's operands. -/

namespace Sys2Proof

/-- A command. Arguments of port requests are whole bytes, so that R185's range tests are the machine's. -/
inductive Instr
  /-- POWER_ON (R162): the supply is established. -/
  | powerOn
  /-- RESET_LINE_ASSERT (R162). -/
  | resetLineAssert
  /-- RESET_LINE_RELEASE (R162). -/
  | resetLineRelease
  /-- LOADING_READ_DONE (R164): LOADING has read the whole Config Store. -/
  | loadingReadDone
  /-- START_COUNTER_WRITE_DONE (R164): a start counter byte write completes. -/
  | startCounterWriteDone
  /-- FRAME_RECEIVED (R35): the lane has delivered the bytes of one whole transmission. -/
  | frameReceived (lane : Lane) (bytes : List Byte)
  /-- COPY_START (R41): the lane is idle. -/
  | copyStart (lane : Lane)
  /-- CONTEST_LOST (R43): the lane's copy in flight loses a contest. -/
  | contestLost (lane : Lane)
  /-- LANE_FAULT_ASSERT (R46): the lane's fault line rises. -/
  | laneFaultAssert (lane : Lane)
  /-- LANE_FAULT_CLEAR (R34): the lane's fault line falls. -/
  | laneFaultClear (lane : Lane)
  /-- PRESENCE_EXPIRY (R69). -/
  | presenceExpiry
  /-- CATCH_UP_WINDOW_EXPIRY (R104). -/
  | catchUpWindowExpiry
  /-- BACKOFF_EXPIRY (R108). -/
  | backoffExpiry
  /-- GRACE_EXPIRY (R124) of the zone's record. -/
  | graceExpiry (zone : Zone)
  /-- VACANT_EXPIRY (R125) of the zone's record. -/
  | vacantExpiry (zone : Zone)
  /-- INPUT_LEVEL_CHANGE (R136): the line now stands high (true) or low. -/
  | inputLevelChange (line : Line) (high : Bool)
  /-- DEBOUNCE_EXPIRY (R136). -/
  | debounceExpiry (line : Line)
  /-- REPEAT_EXPIRY (R142). -/
  | repeatExpiry (line : Line)
  /-- REFRESH_EXPIRY (R139). -/
  | refreshExpiry (line : Line)
  /-- FADE_TICK (R151). -/
  | fadeTick
  /-- PWM_PERIOD_START (R154). -/
  | pwmPeriodStart
  /-- STATUS (R187), request code 0x01. -/
  | status
  /-- NEXT_EVENT (R181), request code 0x02. -/
  | nextEvent
  /-- PUBLISH_SET (R20), request code 0x10. -/
  | publishSet (zone r g b level options : Byte)
  /-- PUBLISH_RECALL (R21), request code 0x11. -/
  | publishRecall (look options : Byte)
  /-- PUBLISH_OCCUPY (R128), request code 0x12. -/
  | publishOccupy (zones : ZoneSet)
  /-- READ_ZONE (R23), request code 0x20. -/
  | readZone (zone : Byte)
  /-- READ_PEER (R61), request code 0x22. -/
  | readPeer (station : Byte)
  /-- READ_HEAD (R157), request code 0x23. -/
  | readHead (head : Byte)
  /-- CAPTURE (R175), request code 0x30. -/
  | capture
  /-- READ_COUNTER (R176), request code 0x31. -/
  | readCounter (first count : Byte)
  /-- CONFIG_POINT (R189), request code 0x40. -/
  | configPoint (address : Word16)
  /-- CONFIG_READ (R189), request code 0x41. -/
  | configRead (count : Byte)
  /-- CONFIG_WRITE (R190), request code 0x42. -/
  | configWrite (value : Byte)
  /-- CONFIG_WRITE_DONE (R190): the byte write's 4 ms have passed. -/
  | configWriteDone
  /-- RESTART (R163), request code 0x7F. -/
  | restart
  /-- BAD_REQUEST (R184): a request code that is none of the fourteen. -/
  | badRequest (code : Byte)
  /-- CHIP_SELECT_RELEASE (R183). -/
  | chipSelectRelease
  /-- LOSS_OF_SUPPLY (R191). -/
  | lossOfSupply
  /-- CHIP_SELECT_ASSERT (R183). -/
  | chipSelectAssert
  /-- COPY_END_NOTHING_TAKEN_BACK (R43): the copy in flight was sent to its end and nothing came back. -/
  | copyEndNothingTakenBack (lane : Lane)
  /-- SETUP_LINE_CHANGE (R172): the SETUP line now stands high (true) or low. -/
  | setupLineChange (high : Bool)
  deriving DecidableEq, Repr

end Sys2Proof
end

