-- ==== Sys2Proof/Decode.lean ====
section
/-! DEFINITION. The commands that a word spells by the bits of spec/opcode_table.json. -/

namespace Sys2Proof

/-- The command that a word spells: none, since no row of the table is given any bits (spec/98_reader.md counts 0 rows with fixed bits and 0 with fields; log 15). -/
def decodeTableWord (_nbits _w : Nat) : Option Instr := none

end Sys2Proof
end

