-- ==== Sys2Proof/Machine/Bytes.lean ====
section
/-! DEFINITION. Byte order and the CRC: every field of more than one byte is high byte first (00, Byte order). -/

namespace Sys2Proof.Machine

open Sys2Proof

/-- Two bytes as a 16-bit value, high byte first. -/
def join16 (hi lo : Byte) : Word16 := hi ++ lo

/-- Four bytes as a 32-bit value, high byte first. -/
def join32 (b3 b2 b1 b0 : Byte) : Word32 := b3 ++ b2 ++ b1 ++ b0

/-- The two bytes of a 16-bit value, high byte first. -/
def split16 (w : Word16) : List Byte := [w.extractLsb' 8 8, w.extractLsb' 0 8]

/-- The four bytes of a 32-bit value, high byte first. -/
def split32 (w : Word32) : List Byte :=
  [w.extractLsb' 24 8, w.extractLsb' 16 8, w.extractLsb' 8 8, w.extractLsb' 0 8]

/-- A number as one byte. -/
def byteOf (n : Nat) : Byte := BitVec.ofNat 8 n

/-- A number as two bytes, high byte first. -/
def word16Of (n : Nat) : List Byte := split16 (BitVec.ofNat 16 n)

/-- A flag as bit `k` of a byte. -/
def bitAt (k : Nat) (b : Bool) : Byte := if b then byteOf (2 ^ k) else 0

/-- One bit of the CRC: polynomial 0x1021, most significant bit first (R18, R25). -/
def crcBit (c : Word16) : Word16 := if c.msb then (c <<< 1) ^^^ 0x1021#16 else c <<< 1

/-- One byte of the CRC, without reflection. -/
def crcByte (c : Word16) (b : Byte) : Word16 :=
  crcBit (crcBit (crcBit (crcBit (crcBit (crcBit (crcBit (crcBit (c ^^^ (b ++ 0#8)))))))))

/-- CRC-16 with polynomial 0x1021 and initial value 0xFFFF, without reflection or final inversion, over the bytes in order (R18, R25, R165). -/
def crc16 (bytes : List Byte) : Word16 := bytes.foldl crcByte 0xFFFF#16

end Sys2Proof.Machine
end

