-- ==== Sys2Proof/Config.lean ====
section
/-! DEFINITION. What the model fixes where the spec gives no value. The spec leaves no result of a command undefined, so there is no free value here (INVENTORY, What the manual leaves open). -/

namespace Sys2Proof

/-- What a byte of the Config Store that nothing has written reads as.
DESIGN CHOICE (log 4), unsafe: the spec gives the array no factory contents; 0xFF is the value it gives an erased byte (R191). -/
def Config.unwrittenByte : Byte := 0xFF#8

/-- The bytes of the Config Store, at addresses 0..2047 (12.3). -/
def Config.storeBytes : Nat := 2048

end Sys2Proof
end

