-- ==== Sys2Proof/Machine/Types.lean ====
section
/-! DEFINITION. The state each block of the node owns (00, Blocks), as plain data, with its values after a reset. Durations are Nat counts of 0.1 ms. -/

namespace Sys2Proof.Machine

open Sys2Proof

/-- A timer: stopped, or running with its remaining time in units of 0.1 ms. -/
inductive Timer
  | stopped
  | running (remaining : Nat)
  deriving DecidableEq, Repr

/-! ## Lines and lanes -/

/-- The levels of the outside lines. They belong to the outside: a reset leaves them as they are (log 5). -/
structure Pins where
  /-- The supply is established. -/
  supply : Bool
  /-- The RESET line is asserted (R162). -/
  resetLine : Bool
  /-- The SETUP line is high (R162). -/
  setupLine : Bool
  /-- The lane fault lines, true when asserted (R34). -/
  faultLines : PerLane Bool
  /-- The input lines, true when high (R135). -/
  inputLines : Vector Bool 8
  deriving DecidableEq, Repr

/-- The state of a lane (02, 2.5). -/
inductive LaneState
  | disabled
  | up
  | down
  deriving DecidableEq, Repr

/-- A Lane Interface (R44, R45). Its copy in flight is the one whose copy state is IN_FLIGHT (log 14). -/
structure LaneInterface where
  state : LaneState
  /-- The consecutive-abandon count, 0..2 (R44). -/
  abandons : Nat
  deriving DecidableEq, Repr

/-! ## Frames -/

/-- A colour, each component 0..255 (R1). -/
structure Colour where
  r : Byte
  g : Byte
  b : Byte
  deriving DecidableEq, Repr

/-- Where a setting came from (R1). -/
inductive Source
  | set
  | recall (look : Look)
  deriving DecidableEq, Repr

/-- A setting with its stamp, origin and source: what a HELD zone entry holds (R1). -/
structure Setting where
  colour : Colour
  level : Byte
  fade : FadeCode
  stamp : Word32
  origin : Station
  source : Source
  deriving DecidableEq, Repr

/-- One entry of a SYNC_ENTRY frame (R33). -/
structure SyncEntry where
  zone : Zone
  setting : Setting
  deriving DecidableEq, Repr

/-- The phase a PRESENCE announces (R28). -/
inductive AnnouncedPhase
  | listen
  | catchUp
  | running
  deriving DecidableEq, Repr

/-- The payload of a frame, by kind (R28 to R33). -/
inductive Payload
  | presence (checksum : Word16) (phase : AnnouncedPhase) (incomplete singleLane : Bool)
  | set (zone : Zone) (colour : Colour) (level : Byte) (fade : FadeCode) (wake : Bool)
  | recall (look : Look) (checksum : Word16) (wake : Bool)
  | occupy (zones : ZoneSet)
  | syncAsk (wanted : ZoneSet)
  | syncEntry (entries : List SyncEntry)
  deriving DecidableEq, Repr

/-- A frame: its header fields (R26) and its payload. Kind, class and length follow from the payload. -/
structure Frame where
  origin : Station
  laneTag : Lane
  startTag : Byte
  sequence : Word16
  stamp : Word32
  payload : Payload
  deriving DecidableEq, Repr

/-! ## Transmit Queue -/

/-- Where one lane's copy of a record stands (R82). -/
inductive CopyState
  | pending
  | inFlight
  | sent
  | abandoned
  | notUsed
  deriving DecidableEq, Repr

/-- A frame record (R82). Its class follows from its kind (R27). -/
structure TxRecord where
  payload : Payload
  startTag : Byte
  sequence : Word16
  stamp : Word32
  copies : PerLane CopyState
  /-- Failed attempts of each lane's copy, 0..16. -/
  attempts : PerLane Nat
  deriving DecidableEq, Repr

/-- The Transmit Queue: its records, oldest first (R83), and the own sequence counter (R84). -/
structure TransmitQueue where
  records : List TxRecord
  nextSequence : Word16
  deriving DecidableEq, Repr

/-- No record, and sequence 0 (R96). -/
def TransmitQueue.reset : TransmitQueue := { records := [], nextSequence := 0 }

/-- Both lanes DISABLED with a count of 0 (R45). -/
def LaneInterface.reset : LaneInterface := { state := .disabled, abandons := 0 }

/-! ## Duplicate Filter -/

/-- An entry of the Origin Window Table (R49). -/
structure OriginEntry where
  active : Bool
  startTag : Byte
  highest : Word16
  /-- The mark at position k is bit k - 1. -/
  window : BitVec 31
  lanesSeen : LaneSet
  /-- The time base when the first copy of `highest` arrived. -/
  firstCopy : Word32
  /-- In units of 0.1 ms, 255 standing for 25.5 ms or more. -/
  worstSkew : Byte
  laneMiss : PerLane Byte
  deriving DecidableEq, Repr

/-- An EMPTY entry (R49, R65). -/
def OriginEntry.reset : OriginEntry :=
  { active := false, startTag := 0, highest := 0, window := 0, lanesSeen := ⟨false, false⟩, firstCopy := 0,
    worstSkew := 0, laneMiss := ⟨0, 0⟩ }

/-- The Duplicate Filter: the time base and the Origin Window Table (R49). -/
structure DuplicateFilter where
  timeBase : Word32
  entries : Vector OriginEntry 32
  deriving DecidableEq, Repr

/-- Every entry EMPTY (R65). The time base at power-on is a DESIGN CHOICE (log 6). -/
def DuplicateFilter.reset : DuplicateFilter := { timeBase := 0, entries := Vector.replicate 32 OriginEntry.reset }

/-! ## Presence Monitor -/

/-- The standing of a station (R66). -/
inductive PeerState
  | absent
  | present
  | silent
  | lost
  | self
  deriving DecidableEq, Repr

/-- A peer record (R66). -/
structure PeerRecord where
  state : PeerState
  /-- Intervals since heard, 0..8. -/
  sinceHeard : Nat
  /-- Intervals since heard on A and on B, 0..3. -/
  sinceLane : PerLane Nat
  checksum : Word16
  phase : Option AnnouncedPhase
  incomplete : Bool
  singleLane : Bool
  clock : Word32
  mismatch : Bool
  crossed : Bool
  deriving DecidableEq, Repr

/-- A record after every reset (R67). -/
def PeerRecord.reset : PeerRecord :=
  { state := .absent, sinceHeard := 8, sinceLane := ⟨3, 3⟩, checksum := 0, phase := none, incomplete := false,
    singleLane := false, clock := 0, mismatch := false, crossed := false }

/-- The Presence Monitor: the Peer Table and the presence timer (R66, R68). -/
structure PresenceMonitor where
  peers : Vector PeerRecord 32
  timer : Timer
  /-- The presence interval taken at the end of LOADING (R68). -/
  interval : Nat
  deriving DecidableEq, Repr

/-- R67, R81. The interval is read only once the timer has started (log 19). -/
def PresenceMonitor.reset : PresenceMonitor :=
  { peers := Vector.replicate 32 PeerRecord.reset, timer := .stopped, interval := 10000 }

/-! ## Zone Store -/

/-- What the zone configuration gives a zone to show while its entry is EMPTY (R3). -/
structure ZoneDefault where
  colour : Colour
  level : Byte
  switchFade : FadeCode
  deriving DecidableEq, Repr

/-- The zero values of R3. -/
def ZoneDefault.zero : ZoneDefault := { colour := ⟨0, 0, 0⟩, level := 0, switchFade := 0 }

/-- One setting of the pool (R16). -/
structure PoolSetting where
  zone : Zone
  colour : Colour
  level : Byte
  fade : FadeCode
  deriving DecidableEq, Repr

/-- One entry of the look directory (R16). -/
structure LookRange where
  start : Nat
  count : Nat
  deriving DecidableEq, Repr

/-- The Look Library: directory and pool (R16). -/
structure LookLibrary where
  directory : Vector LookRange 16
  pool : Vector PoolSetting 240
  deriving DecidableEq, Repr

/-- A setting as heads show it and switches act on it (R4). -/
structure Shown where
  colour : Colour
  level : Byte
  fade : FadeCode
  deriving DecidableEq, Repr

/-- The Zone Store: Zone Table (`none` is EMPTY), stamp clock, Look Library and what configuration gives it (R1, R3, R5, R6, R16, R18). -/
structure ZoneStore where
  table : Vector (Option Setting) 32
  clock : Word32
  /-- The CLOCK_EXHAUSTED status flag. -/
  exhausted : Bool
  defaults : Vector ZoneDefault 32
  library : Option LookLibrary
  checksum : Option Word16
  deriving DecidableEq, Repr

/-- R24. -/
def ZoneStore.reset : ZoneStore :=
  { table := Vector.replicate 32 none, clock := 0, exhausted := false, defaults := Vector.replicate 32 ZoneDefault.zero,
    library := none, checksum := none }

/-! ## Occupancy Unit -/

/-- The occupancy fields of a zone's configuration (R118). -/
structure OccupancyConfig where
  enable : Bool
  grace : Fin 16
  vacant : Fin 16
  /-- The vacant percent, 0..100. -/
  percent : Nat
  fade : FadeCode
  deriving DecidableEq, Repr

/-- Enable 0 and the other fields at 0 (R118). -/
def OccupancyConfig.zero : OccupancyConfig := { enable := false, grace := 0, vacant := 0, percent := 0, fade := 0 }

/-- The occupancy state of a zone (R119). -/
inductive OccupancyState
  | follow
  | occupied
  | vacant
  | dark
  deriving DecidableEq, Repr

/-- The cause of a wake (R119). -/
inductive WakeCause
  | start
  | localSensor
  | occupyFrame
  | switch
  | port
  deriving DecidableEq, Repr

/-- An occupancy record (R119). `overtaken` is the model's own: a wake taken at this moment has restarted the grace time in place of an expiry that was due, which therefore does not happen (R126, log 3). -/
structure OccupancyRecord where
  state : OccupancyState
  timer : Timer
  cause : WakeCause
  overtaken : Bool
  deriving DecidableEq, Repr

/-- The expiry of the grace time is due, its timer standing at 0, or was overtaken at this moment already (R126). -/
def OccupancyRecord.graceDue (r : OccupancyRecord) : Bool := r.state == .occupied && (r.overtaken || r.timer == .running 0)

/-- FOLLOW, stopped, START (R119). -/
def OccupancyRecord.reset : OccupancyRecord := { state := .follow, timer := .stopped, cause := .start, overtaken := false }

/-- The Occupancy Unit (R118, R119). -/
structure OccupancyUnit where
  config : Vector OccupancyConfig 32
  records : Vector OccupancyRecord 32
  deriving DecidableEq, Repr

/-- R132. -/
def OccupancyUnit.reset : OccupancyUnit :=
  { config := Vector.replicate 32 OccupancyConfig.zero, records := Vector.replicate 32 OccupancyRecord.reset }

/-! ## Catch-Up Unit -/

/-- The four actions that are evaluated against a zone's effective setting (R141, R142). -/
inductive ActionKind
  | off
  | toggle
  | raise
  | lower
  deriving DecidableEq, Repr

/-- A held request (R110). An input action's cause is always SWITCH. -/
inductive HeldRequest
  | set (zone : Zone) (colour : Colour) (level : Byte) (fade : FadeCode) (wake : Bool) (cause : WakeCause)
  | recall (look : Look) (wake : Bool) (cause : WakeCause)
  | occupy (zones : ZoneSet) (cause : WakeCause)
  | action (kind : ActionKind) (zone : Zone) (step : Nat)
  deriving DecidableEq, Repr

/-- Where the asker stands (R100). -/
inductive AskerState
  | idle
  | asking
  | window
  | finished
  deriving DecidableEq, Repr

/-- The Catch-Up Unit (R100). -/
structure CatchUpUnit where
  asker : AskerState
  retry : Bool
  window : Timer
  /-- The pending answer set. -/
  answers : ZoneSet
  backoff : Timer
  /-- The Held List, in arrival order. -/
  held : List HeldRequest
  /-- The CATCH_UP_INCOMPLETE status flag. -/
  incomplete : Bool
  deriving DecidableEq, Repr

/-- R100's last column. -/
def CatchUpUnit.reset : CatchUpUnit :=
  { asker := .idle, retry := false, window := .stopped, answers := 0, backoff := .stopped, held := [], incomplete := false }

/-! ## Input Unit -/

/-- What an activation of a line does, with the zone or look and the step it concerns (R133). -/
inductive InputKind
  | unused
  | sensor (zone : Zone)
  | recall (look : Look)
  | action (kind : ActionKind) (zone : Zone) (step : Nat)
  deriving DecidableEq, Repr

/-- An input configuration record (R133). -/
structure InputConfig where
  kind : InputKind
  /-- The polarity is ACTIVE_LOW. -/
  activeLow : Bool
  debounce : Fin 4
  deriving DecidableEq, Repr

/-- An UNUSED input (R133). Polarity and debounce code are not read (log 19). -/
def InputConfig.unused : InputConfig := { kind := .unused, activeLow := false, debounce := 0 }

/-- An input record (R134). `repeating` is the repeat timer. -/
structure InputRecord where
  /-- The debounced level is ACTIVE. -/
  active : Bool
  debounce : Timer
  repeating : Timer
  refresh : Timer
  deriving DecidableEq, Repr

/-- INACTIVE with all three timers stopped (R134). -/
def InputRecord.reset : InputRecord := { active := false, debounce := .stopped, repeating := .stopped, refresh := .stopped }

/-- The Input Unit (R133, R134). -/
structure InputUnit where
  config : Vector InputConfig 8
  records : Vector InputRecord 8
  deriving DecidableEq, Repr

/-- R144. -/
def InputUnit.reset : InputUnit :=
  { config := Vector.replicate 8 InputConfig.unused, records := Vector.replicate 8 InputRecord.reset }

/-! ## Head Unit -/

/-- A head configuration record: the zone it follows and its channel mask, R G B (R145). -/
structure HeadConfig where
  zone : Option Zone
  red : Bool
  green : Bool
  blue : Bool
  deriving DecidableEq, Repr

/-- Zone none, all three channels enabled (R145). -/
def HeadConfig.none : HeadConfig := { zone := Option.none, red := true, green := true, blue := true }

/-- A channel record (R146). -/
structure ChannelRecord where
  /-- 0..4095. -/
  current : Nat
  /-- 0..4095. -/
  target : Nat
  /-- Remaining ticks, 0..12000. -/
  remaining : Nat
  /-- The duty buffer, 0..4095. -/
  buffer : Nat
  deriving DecidableEq, Repr

/-- All 0 (R146). -/
def ChannelRecord.reset : ChannelRecord := { current := 0, target := 0, remaining := 0, buffer := 0 }

/-- The Head Unit (R145, R146, R151, R154). -/
structure HeadUnit where
  config : Vector HeadConfig 4
  /-- The PWM rate code. -/
  rate : Fin 4
  channels : Vector ChannelRecord 12
  fadeTick : Timer
  /-- The duty value each output shows in the present period; 0 is inactive for the whole period. -/
  outputs : Vector Nat 12
  period : Timer
  deriving DecidableEq, Repr

/-- R146, R158. The rate code is read only once the period timing has started (log 19). -/
def HeadUnit.reset : HeadUnit :=
  { config := Vector.replicate 4 HeadConfig.none, rate := 2, channels := Vector.replicate 12 ChannelRecord.reset,
    fadeTick := .stopped, outputs := Vector.replicate 12 0, period := .stopped }

/-! ## Configuration as LOADING reads it -/

/-- The test of R165 that failed. -/
inductive ConfigDetail
  | node
  | library
  | field
  deriving DecidableEq, Repr

/-- What a valid Config Store gives the blocks (R166, R193). -/
structure Configuration where
  station : Station
  laneUse : PerLane Bool
  rate : Fin 4
  mask : BitVec 14
  heads : Vector HeadConfig 4
  inputs : Vector InputConfig 8
  /-- The presence interval code. -/
  presence : Fin 4
  defaults : Vector ZoneDefault 32
  occupancy : Vector OccupancyConfig 32
  library : LookLibrary
  checksum : Word16
  deriving DecidableEq, Repr

/-- The outcome of validation (R165). -/
inductive Validation
  | valid (config : Configuration)
  | invalid (detail : ConfigDetail)
  deriving DecidableEq, Repr

/-! ## Node Controller -/

/-- The node phase (R159). -/
inductive Phase
  | loading
  | commission
  | listen
  | catchUp
  | running
  | mute
  deriving DecidableEq, Repr

/-- How far LOADING has come (R162, R164). -/
inductive LoadingStage
  /-- Held at reset values: the RESET line is asserted or there is no supply. -/
  | held
  /-- LOADING has begun and the Config Store is being read. -/
  | reading
  /-- The store has been read and validated; the start counter is being written. -/
  | checked (found : Validation)
  /-- LOADING has ended in this start. -/
  | ended
  deriving DecidableEq, Repr

/-- The kind of a reset (R161). -/
inductive ResetKind
  | powerOn
  | resetLine
  | restart
  deriving DecidableEq, Repr

/-- Why COMMISSION was entered (R161). -/
inductive CommissionReason
  | none
  | setupLine
  | configInvalid
  deriving DecidableEq, Repr

/-- The reset cause record (R161). -/
structure ResetCause where
  kind : ResetKind
  interruptedWrite : Bool
  configValid : Bool
  reason : CommissionReason
  conflict : Option Station
  deriving DecidableEq, Repr

/-- The Node Controller (R160). -/
structure NodeController where
  phase : Phase
  loading : LoadingStage
  /-- The SETUP sample is HIGH. -/
  setupSample : Bool
  station : Option Station
  startCounter : Word16
  startTag : Byte
  cause : ResetCause
  /-- Presence expiries taken since the entry of LISTEN, 0..2 (R159; log 22). -/
  listenExpiries : Nat
  deriving DecidableEq, Repr

/-- The values of R160 and R161 at a reset, before LOADING begins. -/
def NodeController.reset (kind : ResetKind) (interrupted : Bool) : NodeController :=
  { phase := .loading, loading := .held, setupSample := false, station := none, startCounter := 0, startTag := 0,
    cause := { kind := kind, interruptedWrite := interrupted, configValid := false, reason := .none, conflict := none },
    listenExpiries := 0 }

/-! ## Counter Bank -/

/-- The counters kept per lane, in index order (R173). -/
inductive LaneCounter
  | rxGood
  | rxRunt
  | rxOverlong
  | rxCrcError
  | rxMalformed
  | rxDuplicate
  | rxStale
  | rxCrossed
  | txSent
  | txContention
  | txAbandoned
  deriving DecidableEq, Repr

/-- The counters of the node, in index order (R173). -/
inductive NodeCounter
  | txDrop
  | setSuperseded
  | recallRefused
  | heldDrop
  | peerRestart
  | isolatedPublish
  deriving DecidableEq, Repr

/-- The Counter Bank (R173). -/
structure CounterBank where
  live : Vector Word32 28
  capture : Vector Word32 28
  latch : Bool
  deriving DecidableEq, Repr

/-- R177, power-on and RESET line. -/
def CounterBank.reset : CounterBank := { live := Vector.replicate 28 0, capture := Vector.replicate 28 0, latch := false }

/-! ## Event Unit -/

/-- How a catch-up ended (R105, R178). -/
inductive Completion
  | complete
  | incomplete
  deriving DecidableEq, Repr

/-- An event with its detail, in the order of the priorities (R178). -/
inductive Event
  | stationConflict (station : Station)
  | configInvalid (detail : ConfigDetail)
  | laneDown (lanes : LaneSet)
  | laneUp (lanes : LaneSet)
  | peerLost (stations : StationSet)
  | peerJoined (stations : StationSet)
  | peerRestart (stations : StationSet)
  | libraryMismatch (stations : StationSet)
  | txDrop (count : Byte)
  | catchUpDone (how : Completion)
  | zoneChanged (zones : ZoneSet)
  | occupancyChanged (zones : ZoneSet)
  | counterSaturated (index : Fin 28)
  | configWriteDone (address : Fin 2048)
  deriving DecidableEq, Repr

/-- The 14 event records: `none` is a clear pending flag with an empty detail (R178). -/
structure EventRecords where
  stationConflict : Option Station
  configInvalid : Option ConfigDetail
  laneDown : Option LaneSet
  laneUp : Option LaneSet
  peerLost : Option StationSet
  peerJoined : Option StationSet
  peerRestart : Option StationSet
  libraryMismatch : Option StationSet
  txDrop : Option Byte
  catchUpDone : Option Completion
  zoneChanged : Option ZoneSet
  occupancyChanged : Option ZoneSet
  counterSaturated : Option (Fin 28)
  configWriteDone : Option (Fin 2048)
  deriving DecidableEq, Repr

/-- All clear (R182). -/
def EventRecords.reset : EventRecords :=
  { stationConflict := none, configInvalid := none, laneDown := none, laneUp := none, peerLost := none, peerJoined := none,
    peerRestart := none, libraryMismatch := none, txDrop := none, catchUpDone := none, zoneChanged := none,
    occupancyChanged := none, counterSaturated := none, configWriteDone := none }

/-- The Event Unit: the records and the enable mask, bit k for priority k (R178, R180). -/
structure EventUnit where
  records : EventRecords
  mask : BitVec 14
  deriving DecidableEq, Repr

/-- R182. -/
def EventUnit.reset : EventUnit := { records := EventRecords.reset, mask := 0 }

/-! ## Config Store and Local Port -/

/-- The array of the Config Store: listed bytes by address; an unlisted address reads as `Config.unwrittenByte`. -/
abbrev Memory := List Host.Cell

/-- The kind of the last access through the pointer (R188). -/
inductive Direction
  | none
  | read
  | write
  deriving DecidableEq, Repr

/-- Whether a byte write is under way (R188). -/
inductive WriteState
  | idle
  | writing (address : Fin 2048) (value : Byte) (remaining : Nat)
  deriving DecidableEq, Repr

/-- The Config Store (R188). -/
structure ConfigStore where
  array : Memory
  /-- 0..2048. -/
  pointer : Nat
  direction : Direction
  write : WriteState
  deriving DecidableEq, Repr

/-- R188's last column, with nothing listed in the array. -/
def ConfigStore.reset : ConfigStore := { array := [], pointer := 0, direction := .none, write := .idle }

/-- The transaction under way on the local port (R183; log 8). -/
inductive Transaction
  /-- No transaction is open. -/
  | closed
  /-- Chip select is asserted and no request has taken effect. -/
  | opened
  /-- The request has taken effect: the result code and the result bytes, and whether it was a RESTART that was accepted. -/
  | answered (result : List Byte) (restarting : Bool)
  deriving DecidableEq, Repr

/-- The result codes of R194. -/
inductive ResultCode
  | ok
  | held
  | busy
  | refusedPhase
  | badArgument
  | muted
  | clockExhausted
  | lookUndefined
  | heldFull
  | badRequest
  | notSent
  | dropped
  deriving DecidableEq, Repr

end Sys2Proof.Machine
end

