-- ==== Sys2Proof/Machine/State.lean ====
section
/-! DEFINITION. The state of the node, block by block, and its value right after power-on. -/

namespace Sys2Proof.Machine

open Sys2Proof

/-- Why a step could stop with a fault. The spec names no machine stop and every command has an effect or none, so there is no reason: no constructor, and no command answers `fault`. -/
inductive Fault
  deriving DecidableEq, Repr

/-- Why a command could be refused. -/
inductive Refusal
  /-- The command has no meaning yet. Raised by `exec`'s arms for commands not reached; no arm is one. Safe: the machine stops where the hardware goes on. -/
  | notModelled (mnemonic : String)
  deriving DecidableEq, Repr

/-- The state of the node: one field a block (00, Blocks), the outside lines, and the queue of commands waiting. -/
structure State where
  pins : Pins
  lanes : PerLane LaneInterface
  filter : DuplicateFilter
  presence : PresenceMonitor
  zoneStore : ZoneStore
  catchUp : CatchUpUnit
  tx : TransmitQueue
  occupancy : OccupancyUnit
  inputs : InputUnit
  heads : HeadUnit
  node : NodeController
  counters : CounterBank
  events : EventUnit
  store : ConfigStore
  port : Transaction
  /-- The commands waiting, first in, first out: the model's own, not the spec's. -/
  pending : List Instr
  deriving DecidableEq, Repr

/-- The node right after power-on: supply up, every outside line at rest (DESIGN CHOICE, log 5), every block at its reset values, LOADING begun with the SETUP line sampled low, kind POWER_ON (R162, R164). -/
def State.reset : State :=
  { pins := { supply := true, resetLine := false, setupLine := false, faultLines := ⟨false, false⟩, inputLines := Vector.replicate 8 false }
    lanes := ⟨LaneInterface.reset, LaneInterface.reset⟩
    filter := DuplicateFilter.reset
    presence := PresenceMonitor.reset
    zoneStore := ZoneStore.reset
    catchUp := CatchUpUnit.reset
    tx := TransmitQueue.reset
    occupancy := OccupancyUnit.reset
    inputs := InputUnit.reset
    heads := HeadUnit.reset
    node := { NodeController.reset .powerOn false with loading := .reading }
    counters := CounterBank.reset
    events := EventUnit.reset
    store := ConfigStore.reset
    port := .closed
    pending := [] }

/-! Setters, one a block: every operation changes State through these. -/

def State.setPins (s : State) (x : Pins) : State := { s with pins := x }
def State.setLanes (s : State) (x : PerLane LaneInterface) : State := { s with lanes := x }
def State.setFilter (s : State) (x : DuplicateFilter) : State := { s with filter := x }
def State.setPresence (s : State) (x : PresenceMonitor) : State := { s with presence := x }
def State.setZoneStore (s : State) (x : ZoneStore) : State := { s with zoneStore := x }
def State.setCatchUp (s : State) (x : CatchUpUnit) : State := { s with catchUp := x }
def State.setTx (s : State) (x : TransmitQueue) : State := { s with tx := x }
def State.setOccupancy (s : State) (x : OccupancyUnit) : State := { s with occupancy := x }
def State.setInputs (s : State) (x : InputUnit) : State := { s with inputs := x }
def State.setHeads (s : State) (x : HeadUnit) : State := { s with heads := x }
def State.setNode (s : State) (x : NodeController) : State := { s with node := x }
def State.setCounters (s : State) (x : CounterBank) : State := { s with counters := x }
def State.setEvents (s : State) (x : EventUnit) : State := { s with events := x }
def State.setStore (s : State) (x : ConfigStore) : State := { s with store := x }
def State.setPort (s : State) (x : Transaction) : State := { s with port := x }
def State.setPending (s : State) (x : List Instr) : State := { s with pending := x }

end Sys2Proof.Machine
end

