-- ==== Sys2Proof/Machine/Ops.lean ====
section
/-! DEFINITION. The shared operations: tables, durations, the Config Store's array, counting and raising, and the reset of the node. -/

namespace Sys2Proof.Machine

open Sys2Proof

/-! ## Tables -/

/-- The table whose entry `i` is `f i`. -/
def tabulate {α : Type} (n : Nat) (f : Fin n → α) : Vector α n :=
  ⟨((List.finRange n).map f).toArray, by simp⟩

/-- The table with entry `i` replaced. -/
def update {α : Type} {n : Nat} (v : Vector α n) (i : Fin n) (x : α) : Vector α n := v.set i.val x i.isLt

/-- The table with every entry changed by `f`. -/
def mapTable {α β : Type} {n : Nat} (f : α → β) (v : Vector α n) : Vector β n := tabulate n fun i => f v[i]

/-- The table of all entries of `f`, if every one is there. -/
def collect {α : Type} (n : Nat) (absent : α) (f : Fin n → Option α) : Option (Vector α n) :=
  if (List.finRange n).all (fun i => (f i).isSome) then some (tabulate n fun i => (f i).getD absent) else none

/-- A byte as a number below `n`. -/
def below (n : Nat) (b : Byte) : Option (Fin n) := if h : b.toNat < n then some ⟨b.toNat, h⟩ else none

/-- Whether a set holds zone or station `n` (12.4). -/
def inSet (set : BitVec 32) (n : Fin 32) : Bool := set.getLsbD n.val

/-- The numbers of a set in ascending order. -/
def members (set : BitVec 32) : List (Fin 32) := (List.finRange 32).filter (inSet set)

/-- The set of the numbers of which `p` holds. -/
def setOf (p : Fin 32 → Bool) : BitVec 32 :=
  (List.finRange 32).foldl (fun acc n => if p n then acc ||| oneOf n else acc) 0

/-- Every zone, {0..31}. -/
def allZones : ZoneSet := BitVec.allOnes 32

/-! ## Durations, in units of 0.1 ms -/

/-- Milliseconds. -/
def ms (n : Nat) : Nat := 10 * n

/-- The catch-up window (R102). -/
def windowTime : Nat := ms 250

/-- The back-off time of a station (R106). -/
def backoffTime (own : Station) : Nat := ms ((own.val + 1) * 4)

/-- The presence interval of a code (R68). -/
def presenceTime (code : Fin 4) : Nat := ms (250 * 2 ^ code.val)

/-- The presence interval with an invalid configuration (R68). -/
def presenceTimeInvalid : Nat := ms 1000

/-- The grace time of a code (R118). -/
def graceTime (code : Fin 16) : Nat := if code = 0 then ms 30000 else ms (60000 * code.val)

/-- The vacant time of a code 1..15 (R118). -/
def vacantTime (code : Fin 16) : Nat := ms (120000 * code.val)

/-- The debounce time of a code (R133). -/
def debounceTime (code : Fin 4) : Nat := ms (2 * 4 ^ code.val)

/-- The repeat time of RAISE and LOWER (R142). -/
def repeatTime : Nat := ms 500

/-- The refresh time of SENSOR (R139). -/
def refreshTime : Nat := ms 20000

/-- The fade tick (R151). -/
def fadeTickTime : Nat := ms 10

/-- The PWM period of a rate code (R154). -/
def periodTime (code : Fin 4) : Nat := 40 / 2 ^ code.val

/-- A Config Store byte write (R190). -/
def writeTime : Nat := ms 4

/-- Whether a timer runs. -/
def Timer.isRunning : Timer → Bool
  | .stopped => false
  | .running _ => true

/-- The remaining time, 0 when stopped. -/
def Timer.left : Timer → Nat
  | .stopped => 0
  | .running n => n

/-- The timer once `n` units of 0.1 ms have passed. At 0 it waits for its expiry command (log 3). -/
def Timer.after (n : Nat) : Timer → Timer
  | .stopped => .stopped
  | .running left => .running (left - n)

/-- The timer 0.1 ms later. -/
def Timer.later (t : Timer) : Timer := t.after 1

/-! ## The array of the Config Store -/

/-- The byte at an address (R188). -/
def Memory.read : Memory → Nat → Byte
  | [], _ => Config.unwrittenByte
  | (k, b) :: rest, a => if k = a then b else Memory.read rest a

/-- The array with the byte at `a` replaced, in canonical form: writing the value an unlisted address reads as leaves it unlisted. -/
def Memory.put : Memory → Nat → Byte → Memory
  | [], a, b => if b = Config.unwrittenByte then [] else [(a, b)]
  | (k, c) :: rest, a, b =>
    if a < k then (if b = Config.unwrittenByte then (k, c) :: rest else (a, b) :: (k, c) :: rest)
    else if a = k then (if b = Config.unwrittenByte then rest else (a, b) :: rest)
    else (k, c) :: Memory.put rest a b

/-- A byte write to the array. -/
def Memory.write (m : Memory) (a : Fin 2048) (b : Byte) : Memory := Memory.put m a.val b

/-- Addresses strictly rising from `lo`, all in the array, no byte equal to what an unlisted address reads as. -/
def Memory.wfFrom : Nat → Memory → Bool
  | _, [] => true
  | lo, (k, b) :: rest => decide (lo ≤ k) && decide (k < Config.storeBytes) && (b != Config.unwrittenByte) && Memory.wfFrom (k + 1) rest

/-- The canonical form of the array. -/
def Memory.wf (m : Memory) : Bool := Memory.wfFrom 0 m

/-- `n` bytes from address `a` onward, in address order. -/
def Memory.slice (m : Memory) (a n : Nat) : List Byte := (List.range n).map fun i => Memory.read m (a + i)

/-! ## Events and counters -/

/-- Union into a pending set (R179). -/
def pendSet (held : Option (BitVec 32)) (raised : BitVec 32) : Option (BitVec 32) :=
  some (held.getD 0 ||| raised)

/-- Union into a pending lane set (R179). -/
def pendLanes (held : Option LaneSet) (raised : LaneSet) : Option LaneSet :=
  some (laneUnion (held.getD ⟨false, false⟩) raised)

/-- Addition to a pending count, stopping at 255 (R179). -/
def pendCount (held : Option Byte) (raised : Byte) : Option Byte :=
  some (byteOf (min 255 ((held.getD 0).toNat + raised.toNat)))

/-- Merges a raised event into its record by the form of its kind: union, newest or added (R178, R179). -/
def EventRecords.add (r : EventRecords) : Event → EventRecords
  | .stationConflict n => { r with stationConflict := some n }
  | .configInvalid d => { r with configInvalid := some d }
  | .laneDown l => { r with laneDown := pendLanes r.laneDown l }
  | .laneUp l => { r with laneUp := pendLanes r.laneUp l }
  | .peerLost t => { r with peerLost := pendSet r.peerLost t }
  | .peerJoined t => { r with peerJoined := pendSet r.peerJoined t }
  | .peerRestart t => { r with peerRestart := pendSet r.peerRestart t }
  | .libraryMismatch t => { r with libraryMismatch := pendSet r.libraryMismatch t }
  | .txDrop n => { r with txDrop := pendCount r.txDrop n }
  | .catchUpDone c => { r with catchUpDone := some c }
  | .zoneChanged z => { r with zoneChanged := pendSet r.zoneChanged z }
  | .occupancyChanged z => { r with occupancyChanged := pendSet r.occupancyChanged z }
  | .counterSaturated i => { r with counterSaturated := some i }
  | .configWriteDone a => { r with configWriteDone := some a }

/-- Raises an event: its kind becomes pending with the detail merged, whatever the mask (R179). -/
def raise (e : Event) (s : State) : State :=
  s.setEvents { s.events with records := s.events.records.add e }

/-- The place of a lane counter among the eleven of its lane (R173). -/
def LaneCounter.place : LaneCounter → Fin 11
  | .rxGood => 0
  | .rxRunt => 1
  | .rxOverlong => 2
  | .rxCrcError => 3
  | .rxMalformed => 4
  | .rxDuplicate => 5
  | .rxStale => 6
  | .rxCrossed => 7
  | .txSent => 8
  | .txContention => 9
  | .txAbandoned => 10

/-- The index of a lane counter: 0..10 for Lane A, 11..21 for Lane B (R173). -/
def laneIndex (L : Lane) (c : LaneCounter) : Fin 28 :=
  match L with
  | .A => ⟨c.place.val, by omega⟩
  | .B => ⟨11 + c.place.val, by omega⟩

/-- The index of a node counter, 22..27 (R173). -/
def nodeIndex : NodeCounter → Fin 28
  | .txDrop => 22
  | .setSuperseded => 23
  | .recallRefused => 24
  | .heldDrop => 25
  | .peerRestart => 26
  | .isolatedPublish => 27

/-- The greatest value of a counter and of the stamp clock, 2^32 - 1. -/
def maxWord : Word32 := 0xFFFFFFFF#32

/-- Counts the counter of an index: saturating, and raising COUNTER_SATURATED at the first saturation since the latch was cleared (R174). -/
def countAt (i : Fin 28) (s : State) : State :=
  let v := s.counters.live[i]
  if v = maxWord then s
  else
    let counted := { s.counters with live := update s.counters.live i (v + 1) }
    if v + 1 = maxWord ∧ s.counters.latch = false then
      raise (.counterSaturated i) (s.setCounters { counted with latch := true })
    else s.setCounters counted

/-- "X is counted on lane L" (00, Counting and raising). -/
def countLane (L : Lane) (c : LaneCounter) (s : State) : State := countAt (laneIndex L c) s

/-- "X is counted" for a counter of the node. -/
def countNode (c : NodeCounter) (s : State) : State := countAt (nodeIndex c) s

/-! ## Resets -/

/-- The array once a byte write under way has been cut off: that byte holds 0xFF (R191). -/
def cutOffWrite (store : ConfigStore) : Memory :=
  match store.write with
  | .idle => store.array
  | .writing a _ _ => Memory.write store.array a 0xFF#8

/-- Whether a Config Store byte write is under way. -/
def ConfigStore.isWriting (store : ConfigStore) : Bool :=
  match store.write with
  | .idle => false
  | .writing _ _ _ => true

/-- Every block at its reset values, held before LOADING begins. The outside lines, the array of the Config Store, the time base (log 6) and the queue of commands stay; the capture bank stays for a RESTART (R162, R163, R177). -/
def resetBlocks (kind : ResetKind) (interrupted : Bool) (array : Memory) (s : State) : State :=
  { State.reset with
    pins := s.pins
    filter := { DuplicateFilter.reset with timeBase := s.filter.timeBase }
    node := NodeController.reset kind interrupted
    counters := { CounterBank.reset with capture := if kind = .restart then s.counters.capture else CounterBank.reset.capture }
    store := { ConfigStore.reset with array := array }
    pending := s.pending }

/-- LOADING begins: the SETUP line is sampled once and the store is read (R162, R164). -/
def beginLoading (s : State) : State :=
  s.setNode { s.node with loading := .reading, setupSample := s.pins.setupLine }

/-! ## Time -/

/-- A Config Store byte write once `n` units of 0.1 ms have passed. -/
def WriteState.after (n : Nat) : WriteState → WriteState
  | .idle => .idle
  | .writing a v left => .writing a v (left - n)

/-- The time a Config Store byte write still takes, 0 when none is under way. -/
def WriteState.left : WriteState → Nat
  | .idle => 0
  | .writing _ _ n => n

/-- `n` units of 0.1 ms pass: the time base counts and every running timer counts down. Nothing expires by itself: the expiries are commands (log 2, log 3). An expiry overtaken at an earlier moment is past (R126). -/
def passBy (n : Nat) (s : State) : State :=
  { s with
    filter := { s.filter with timeBase := s.filter.timeBase + BitVec.ofNat 32 n }
    presence := { s.presence with timer := s.presence.timer.after n }
    catchUp := { s.catchUp with window := s.catchUp.window.after n, backoff := s.catchUp.backoff.after n }
    occupancy := { s.occupancy with
      records := mapTable (fun r => { r with timer := r.timer.after n, overtaken := r.overtaken && n == 0 }) s.occupancy.records }
    inputs := { s.inputs with
      records := mapTable
        (fun r => { r with debounce := r.debounce.after n, repeating := r.repeating.after n, refresh := r.refresh.after n })
        s.inputs.records }
    heads := { s.heads with fadeTick := s.heads.fadeTick.after n, period := s.heads.period.after n }
    store := { s.store with write := s.store.write.after n } }

/-- 0.1 ms passes. Without supply nothing runs. -/
def passTime (s : State) : State := if s.pins.supply then passBy 1 s else s

/-- The moment a timer expires: the time it still has passes first, so that no timer expires early (log 3). -/
def expiryOf (t : Timer) (s : State) : State := passBy t.left s

/-- The moment the byte write under way ends (log 3). -/
def endOfWrite (s : State) : State := passBy s.store.write.left s

end Sys2Proof.Machine
end

