-- ==== Sys2Proof/Machine/Frames.lean ====
section
/-! DEFINITION. Frames as bytes and bytes as frames: the layouts of R192, the fields and validity of R26 to R33, and the receive classes of R35 and R36. -/

namespace Sys2Proof.Machine

open Sys2Proof

/-! ## Kinds -/

/-- The number of a kind (R26). -/
def Payload.kind : Payload → Nat
  | .presence _ _ _ _ => 1
  | .set _ _ _ _ _ => 2
  | .recall _ _ _ => 3
  | .occupy _ => 4
  | .syncAsk _ => 5
  | .syncEntry _ => 6

/-- SET, RECALL and OCCUPY are URGENT, the others ROUTINE (R27). -/
def urgentKind (kind : Nat) : Bool := kind == 2 || kind == 3 || kind == 4

/-- The class of a payload's frame is URGENT (R27). -/
def Payload.urgent (p : Payload) : Bool := urgentKind p.kind

/-- The kind is PRESENCE. -/
def Payload.isPresence (p : Payload) : Bool := p.kind == 1

/-- The kind is SYNC_ASK. -/
def Payload.isAsk (p : Payload) : Bool := p.kind == 5

/-! ## Sending (R192) -/

/-- The phase byte of a PRESENCE (R28). -/
def AnnouncedPhase.code : AnnouncedPhase → Byte
  | .listen => 1
  | .catchUp => 2
  | .running => 3

/-- The source byte of an entry: 0xFF for SET, else the look (R33). -/
def Source.code : Source → Byte
  | .set => 0xFF#8
  | .recall look => byteOf look.val

/-- The twelve bytes of a SYNC_ENTRY entry. -/
def SyncEntry.bytes (e : SyncEntry) : List Byte :=
  [byteOf e.zone.val, e.setting.colour.r, e.setting.colour.g, e.setting.colour.b, e.setting.level, byteOf e.setting.fade.val] ++
    split32 e.setting.stamp ++ [byteOf e.setting.origin.val, e.setting.source.code]

/-- The payload bytes of each kind. -/
def Payload.bytes : Payload → List Byte
  | .presence checksum phase incomplete singleLane => split16 checksum ++ [phase.code, bitAt 0 incomplete ||| bitAt 1 singleLane]
  | .set zone colour level fade wake => [byteOf zone.val, colour.r, colour.g, colour.b, level, byteOf fade.val ||| bitAt 4 wake]
  | .recall look checksum wake => byteOf look.val :: (split16 checksum ++ [bitAt 0 wake])
  | .occupy zones => split32 zones
  | .syncAsk wanted => split32 wanted
  | .syncEntry entries => entries.flatMap SyncEntry.bytes

/-- The lane tag, bit 7 of header byte 1. -/
def Lane.tag : Lane → Byte
  | .A => 0x00#8
  | .B => 0x80#8

/-- Header and payload in the order they are sent. -/
def Frame.body (f : Frame) : List Byte :=
  let p := f.payload.bytes
  [byteOf (f.payload.kind * 16) ||| bitAt 3 f.payload.urgent, Lane.tag f.laneTag ||| byteOf f.origin.val, f.startTag] ++
    split16 f.sequence ++ split32 f.stamp ++ [byteOf p.length] ++ p

/-- The bytes of the frame: header, payload, and the CRC over both, high byte first (R25). -/
def Frame.bytes (f : Frame) : List Byte := f.body ++ split16 (crc16 f.body)

/-! ## Receiving (R28 to R36) -/

/-- The phase byte 1, 2 or 3 of a PRESENCE (R28). -/
def parsePhase (b : Byte) : Option AnnouncedPhase :=
  if b = 1 then some .listen else if b = 2 then some .catchUp else if b = 3 then some .running else none

/-- The source byte: 0xFF or 0..15 (R33). -/
def parseSource (b : Byte) : Option Source :=
  if b = 0xFF#8 then some .set else (below 16 b).map .recall

/-- One entry of a SYNC_ENTRY; `none` where R33 refuses a value. -/
def parseEntry : List Byte → Option SyncEntry
  | [z, r, g, b, level, fade, s3, s2, s1, s0, origin, source] => do
    let zone ← below 32 z
    let fade ← below 16 fade
    let origin ← below 32 origin
    let source ← parseSource source
    return { zone := zone, setting := { colour := ⟨r, g, b⟩, level := level, fade := fade, stamp := join32 s3 s2 s1 s0, origin := origin, source := source } }
  | _ => none

/-- `n` entries and nothing more. -/
def parseEntries : Nat → List Byte → Option (List SyncEntry)
  | 0, bytes => if bytes.isEmpty then some [] else none
  | n + 1, bytes => do
    let e ← parseEntry (bytes.take 12)
    let rest ← parseEntries n (bytes.drop 12)
    return e :: rest

/-- A payload of the given kind; `none` where the length or a value is one that R28 to R33 refuse. -/
def parsePayload (kind : Nat) (bytes : List Byte) : Option Payload :=
  match kind, bytes with
  | 1, [c1, c0, phase, flags] => do
    let phase ← parsePhase phase
    if flags &&& 0xFC#8 = 0 then some (.presence (join16 c1 c0) phase (flags.getLsbD 0) (flags.getLsbD 1)) else none
  | 2, [z, r, g, b, level, options] => do
    let zone ← below 32 z
    let fade ← below 16 (options &&& 0x0F#8)
    if options &&& 0xE0#8 = 0 then some (.set zone ⟨r, g, b⟩ level fade (options.getLsbD 4)) else none
  | 3, [k, c1, c0, options] => do
    let look ← below 16 k
    if options &&& 0xFE#8 = 0 then some (.recall look (join16 c1 c0) (options.getLsbD 0)) else none
  | 4, [b3, b2, b1, b0] => if join32 b3 b2 b1 b0 = 0 then none else some (.occupy (join32 b3 b2 b1 b0))
  | 5, [b3, b2, b1, b0] => if join32 b3 b2 b1 b0 = 0 then none else some (.syncAsk (join32 b3 b2 b1 b0))
  | 6, bytes =>
    if bytes.length = 0 ∨ bytes.length % 12 ≠ 0 then none
    else (parseEntries (bytes.length / 12) bytes).map .syncEntry
  | _, _ => none

/-- Header and payload; `none` when any condition of R36 holds. -/
def parseBody : List Byte → Option Frame
  | k :: t :: tag :: q1 :: q0 :: s3 :: s2 :: s1 :: s0 :: len :: payload =>
    let kind := k.toNat / 16
    if len.toNat ≠ payload.length then none
    else if kind = 0 ∨ 6 < kind then none
    else if k &&& 0x07#8 ≠ 0 ∨ t &&& 0x60#8 ≠ 0 then none
    else if k.getLsbD 3 ≠ urgentKind kind then none
    else (parsePayload kind payload).map fun p =>
      { origin := ⟨t.toNat % 32, Nat.mod_lt _ (by decide)⟩, laneTag := if t.getLsbD 7 then .B else .A, startTag := tag,
        sequence := join16 q1 q0, stamp := join32 s3 s2 s1 s0, payload := p }
  | _ => none

/-- The receive class of a frame (R35), with what a GOOD frame carries. -/
inductive Reception
  | runt
  | overlong
  | crcError
  | malformed
  | good (frame : Frame)
  deriving DecidableEq, Repr

/-- The first test of R35 that holds. -/
def classify (bytes : List Byte) : Reception :=
  if bytes.length < 12 then .runt
  else if 60 < bytes.length then .overlong
  else
    let body := bytes.take (bytes.length - 2)
    if split16 (crc16 body) ≠ bytes.drop (bytes.length - 2) then .crcError
    else
      match parseBody body with
      | none => .malformed
      | some f => .good f

/-! ## Copies -/

/-- The frame of one lane's copy of a record (R26, R82). -/
def copyFrame (own : Station) (L : Lane) (r : TxRecord) : Frame :=
  { origin := own, laneTag := L, startTag := r.startTag, sequence := r.sequence, stamp := r.stamp, payload := r.payload }

/-- The bytes of one lane's copy of a record. -/
def copyBytes (own : Station) (L : Lane) (r : TxRecord) : List Byte := (copyFrame own L r).bytes

end Sys2Proof.Machine
end

