-- ==== Sys2Proof/Machine/Queue.lean ====
section
/-! DEFINITION. The Transmit Queue: entering, displacing and selecting records (R82 to R88, R93). -/

namespace Sys2Proof.Machine

open Sys2Proof

/-- PENDING and IN_FLIGHT are the live states (R82). -/
def CopyState.live : CopyState → Bool
  | .pending => true
  | .inFlight => true
  | .sent => false
  | .abandoned => false
  | .notUsed => false

/-- At least one copy is PENDING or IN_FLIGHT. -/
def TxRecord.live (r : TxRecord) : Bool := r.copies.a.live || r.copies.b.live

/-- At least one copy is IN_FLIGHT. -/
def TxRecord.flying (r : TxRecord) : Bool := r.copies.a == .inFlight || r.copies.b == .inFlight

/-- A SYNC_ASK record with no copy SENT: leaving so, it is an ask that has failed (R94). -/
def TxRecord.unsentAsk (r : TxRecord) : Bool := r.payload.isAsk && r.copies.a != .sent && r.copies.b != .sent

/-- The copy state a lane gives a new record (R85). -/
def copyStateFor (presence : Bool) (lane : LaneState) (fault : Bool) : CopyState :=
  match lane with
  | .up => .pending
  | .down => if presence && !fault then .pending else .notUsed
  | .disabled => .notUsed

/-- Both copy states of a new record (R85). -/
def newCopies (presence : Bool) (s : State) : PerLane CopyState :=
  ⟨copyStateFor presence s.lanes.a.state s.pins.faultLines.a, copyStateFor presence s.lanes.b.state s.pins.faultLines.b⟩

/-- What became of an offered record (R85, R86). -/
inductive OfferOutcome
  | entered
  | notSent
  | dropped
  deriving DecidableEq, Repr

/-- An offer's end: the state, what became of the record, and whether a SYNC_ASK record with no copy SENT was displaced (R86, R94). -/
structure Offer where
  state : State
  outcome : OfferOutcome
  lostAsk : Bool

/-- The queue without its newest ROUTINE record that has no copy IN_FLIGHT, and that record, if there is one (R86). R97's first row speaks of a younger record than the one whose copy was taken: the model follows R86, whatever the age, a DESIGN CHOICE (log 30). -/
def displaceNewest : List TxRecord → Option (TxRecord × List TxRecord)
  | [] => none
  | r :: rest =>
    match displaceNewest rest with
    | some (gone, left) => some (gone, r :: left)
    | none => if !r.payload.urgent && !r.flying then some (r, rest) else none

/-- The record takes its sequence and joins at the newest end (R84, R85). -/
def enterRecord (payload : Payload) (stamp : Word32) (copies : PerLane CopyState) (s : State) : State :=
  let r : TxRecord :=
    { payload := payload, startTag := s.node.startTag, sequence := s.tx.nextSequence, stamp := stamp, copies := copies, attempts := ⟨0, 0⟩ }
  s.setTx { records := s.tx.records ++ [r], nextSequence := s.tx.nextSequence + 1 }

/-- TX_DROP is counted and raised with a count of 1 (R86). -/
def dropRecord (s : State) : State := raise (.txDrop 1) (countNode .txDrop s)

/-- The room of the Transmit Queue (R83). -/
def queueRoom : Nat := 16

/-- SET, RECALL and OCCUPY are the kinds whose isolation is counted (R85). -/
def Payload.isPublication (p : Payload) : Bool := p.urgent

/-- Offers a record to the Transmit Queue (R85, R86). -/
def offerRecord (payload : Payload) (stamp : Word32) (s : State) : Offer :=
  let copies := newCopies payload.isPresence s
  if copies.a ≠ .pending ∧ copies.b ≠ .pending then
    { state := if payload.isPublication then countNode .isolatedPublish s else s, outcome := .notSent, lostAsk := false }
  else if s.tx.records.length < queueRoom then
    { state := enterRecord payload stamp copies s, outcome := .entered, lostAsk := false }
  else if payload.urgent then
    match displaceNewest s.tx.records with
    | some (gone, left) =>
      { state := enterRecord payload stamp copies (dropRecord (s.setTx { s.tx with records := left })),
        outcome := .entered, lostAsk := gone.unsentAsk }
    | none => { state := dropRecord s, outcome := .dropped, lostAsk := false }
  else { state := dropRecord s, outcome := .dropped, lostAsk := false }

/-- The lane's copy in flight: the record whose copy for the lane is IN_FLIGHT (log 14). -/
def inFlightOn (L : Lane) (q : List TxRecord) : Option TxRecord :=
  q.find? fun r => r.copies.get L == .inFlight

/-- Replaces a Lane Interface. -/
def putLane (L : Lane) (x : LaneInterface) (s : State) : State := s.setLanes (s.lanes.put L x)

/-- Changes the first record of which `p` holds. -/
def changeFirst (p : TxRecord → Bool) (f : TxRecord → TxRecord) : List TxRecord → List TxRecord
  | [] => []
  | r :: rest => if p r then f r :: rest else r :: changeFirst p f rest

/-- Sets the state of one lane's copy. -/
def TxRecord.setCopy (r : TxRecord) (L : Lane) (c : CopyState) : TxRecord := { r with copies := r.copies.put L c }

/-- Changes the record of the lane's copy in flight. -/
def changeInFlight (L : Lane) (f : TxRecord → TxRecord) (s : State) : State :=
  s.setTx { s.tx with records := changeFirst (fun r => r.copies.get L == .inFlight) f s.tx.records }

/-- A record has a PENDING copy for the lane and is of the class. -/
def selectable (L : Lane) (urgent : Bool) (r : TxRecord) : Bool :=
  r.payload.urgent == urgent && r.copies.get L == .pending

/-- The selected copy becomes IN_FLIGHT: of the oldest URGENT record with a PENDING copy for the lane, else of the oldest ROUTINE one (R88). -/
def startSelected (L : Lane) (q : List TxRecord) : List TxRecord :=
  if q.any (selectable L true) then changeFirst (selectable L true) (fun r => r.setCopy L .inFlight) q
  else changeFirst (selectable L false) (fun r => r.setCopy L .inFlight) q

/-- Whether the lane may send: UP, or DOWN with its fault line clear (R41). -/
def laneMaySend (L : Lane) (s : State) : Bool :=
  match (s.lanes.get L).state with
  | .up => true
  | .down => !(s.pins.faultLines.get L)
  | .disabled => false

/-- COPY_START (R41, R88): the lane is idle; if it may send and its transmitter is free, the selected copy becomes IN_FLIGHT. -/
def execCopyStart (L : Lane) (s : State) : Host.Outcome State Fault Refusal :=
  if laneMaySend L s ∧ (inFlightOn L s.tx.records).isNone then
    .next (s.setTx { s.tx with records := startSelected L s.tx.records })
  else .next s

end Sys2Proof.Machine
end

