-- ==== Sys2Proof/Machine/Light.lean ====
section
/-! DEFINITION. The effective setting, the occupancy factor, and the Head Unit's targets, fades and outputs (R4, R119, R145 to R156). -/

namespace Sys2Proof.Machine

open Sys2Proof

/-! ## What a head reads -/

/-- The effective setting of a zone: the HELD entry's, else the zone's default with its switch fade code (R4). -/
def effective (z : ZoneStore) (zone : Zone) : Shown :=
  match z.table[zone] with
  | some e => { colour := e.colour, level := e.level, fade := e.fade }
  | none =>
    let d := z.defaults[zone]
    { colour := d.colour, level := d.level, fade := d.switchFade }

/-- The occupancy factor of a state (R119). -/
def stateFactor (cfg : OccupancyConfig) : OccupancyState → Nat
  | .follow => 100
  | .occupied => 100
  | .vacant => cfg.percent
  | .dark => 0

/-- The occupancy factor of a zone (R119). -/
def factorOf (o : OccupancyUnit) (zone : Zone) : Nat := stateFactor o.config[zone] o.records[zone].state

/-- The phases in which heads follow their zones (R148). -/
def Phase.headsFollow : Phase → Bool
  | .loading => false
  | .commission => false
  | .listen => true
  | .catchUp => true
  | .running => true
  | .mute => true

/-! ## Channels -/

/-- The ticks of a fade code (R150). -/
def fadeTicks (code : FadeCode) : Nat :=
  (#v[0, 25, 50, 100, 200, 300, 500, 800, 1000, 1500, 2000, 3000, 4500, 6000, 9000, 12000] : Vector Nat 16)[code]

/-- The target of an enabled channel: the floor of the exact quotient (R147). -/
def targetOf (component level : Byte) (factor : Nat) : Nat :=
  component.toNat * level.toNat * factor * 4095 / (255 * 255 * 100)

/-- Starts a fade to a target from the current value as it stands (R150); with code 0 the channel is there at once. -/
def startFade (target : Nat) (code : FadeCode) (c : ChannelRecord) : ChannelRecord :=
  if fadeTicks code = 0 then { current := target, target := target, remaining := 0, buffer := target }
  else { c with target := target, remaining := fadeTicks code }

/-- A channel masked off: everything 0 (R148). -/
def maskedChannel : ChannelRecord := { current := 0, target := 0, remaining := 0, buffer := 0 }

/-- The head that drives a channel (R145). -/
def headOf (ch : Channel) : Head := ⟨ch.val / 3, by omega⟩

/-- Whether the head's channel mask enables a channel; red, green and blue in order (R145). -/
def channelEnabled (cfg : HeadConfig) (ch : Channel) : Bool :=
  if ch.val % 3 = 0 then cfg.red else if ch.val % 3 = 1 then cfg.green else cfg.blue

/-- The colour component a channel shows (R147). -/
def componentOf (colour : Colour) (ch : Channel) : Byte :=
  if ch.val % 3 = 0 then colour.r else if ch.val % 3 = 1 then colour.g else colour.b

/-- One channel at its head's recomputation (R148). -/
def recomputeChannel (cfg : HeadConfig) (shown : Shown) (factor : Nat) (code : FadeCode) (ch : Channel) (c : ChannelRecord) : ChannelRecord :=
  if channelEnabled cfg ch then startFade (targetOf (componentOf shown.colour ch) shown.level factor) code c
  else maskedChannel

/-- Every head that follows a zone of `concerned` recomputes its targets with a fade code, in the phases in which heads follow (R148). -/
def recomputeWhere (concerned : Zone → Bool) (code : FadeCode) (s : State) : State :=
  if s.node.phase.headsFollow then
    s.setHeads { s.heads with
      channels := tabulate 12 fun ch =>
        let cfg := s.heads.config[headOf ch]
        match cfg.zone with
        | some z =>
          if concerned z then
            recomputeChannel cfg (effective s.zoneStore z) (factorOf s.occupancy z) code ch s.heads.channels[ch]
          else s.heads.channels[ch]
        | none => s.heads.channels[ch] }
  else s

/-- Every head of a zone recomputes (R148). -/
def recomputeHeads (zone : Zone) (code : FadeCode) (s : State) : State := recomputeWhere (fun z => z == zone) code s

/-- One fade step: the difference over the remaining ticks, truncated toward zero (R151). -/
def fadeStep (c : ChannelRecord) : ChannelRecord :=
  if c.remaining = 0 then c
  else
    let next := ((c.current : Int) + ((c.target : Int) - (c.current : Int)).tdiv (c.remaining : Int)).toNat
    { c with current := next, remaining := c.remaining - 1, buffer := next }

/-- Every channel fades with code 3 to half duty, masked or not (R155). -/
def commissionLight (h : HeadUnit) : HeadUnit :=
  { h with channels := mapTable (startFade 2048 3) h.channels }

/-- A fade tick: each fading channel takes one step, and the next tick is 10 ms away (R151). -/
def takeFadeTick (s : State) : State :=
  s.setHeads { s.heads with channels := mapTable fadeStep s.heads.channels, fadeTick := .running fadeTickTime }

/-- A period start: each output takes its channel's duty buffer (R154). -/
def startPeriod (s : State) : State :=
  s.setHeads { s.heads with outputs := mapTable (fun c => c.buffer) s.heads.channels, period := .running (periodTime s.heads.rate) }

/-- FADE_TICK (R151): while the fade tick runs, the next tick is taken at its time (log 3). -/
def execFadeTick (s : State) : Host.Outcome State Fault Refusal :=
  if s.heads.fadeTick.isRunning then .next (takeFadeTick (expiryOf s.heads.fadeTick s)) else .next s

/-- PWM_PERIOD_START (R154): while the period timing runs, the next period starts at its time (log 3). -/
def execPwmPeriodStart (s : State) : Host.Outcome State Fault Refusal :=
  if s.heads.period.isRunning then .next (startPeriod (expiryOf s.heads.period s)) else .next s

/-- The level of a PWM output, high when active (R154): active for the fraction d / 4095 of its period, from the period's start; for the whole of it at 4095, and never at 0 or before the first period. -/
def outputHigh (h : HeadUnit) (ch : Channel) : Bool :=
  match h.period with
  | .stopped => false
  | .running left =>
    h.outputs[ch] == 4095 || decide ((periodTime h.rate - left) * 4095 < h.outputs[ch] * periodTime h.rate)

end Sys2Proof.Machine
end

