-- ==== Sys2Proof/Machine/Occupancy.lean ====
section
/-! DEFINITION. Occupancy records: changes of state, wakes and expiries (R119 to R126). -/

namespace Sys2Proof.Machine

open Sys2Proof

/-- Replaces a zone's occupancy record. -/
def putOccupancy (zone : Zone) (r : OccupancyRecord) (s : State) : State :=
  s.setOccupancy { s.occupancy with records := update s.occupancy.records zone r }

/-- A change of state of a zone's record: OCCUPANCY_CHANGED is raised (R130), and where the factor changes the zone's heads receive it, a rise with the effective fade code and a fall with the vacancy fade code (R120). -/
def changeOccupancy (zone : Zone) (r : OccupancyRecord) (s : State) : State :=
  let before := factorOf s.occupancy zone
  let changed := raise (.occupancyChanged (oneOf zone)) (putOccupancy zone r s)
  let after := factorOf changed.occupancy zone
  if before < after then recomputeHeads zone (effective changed.zoneStore zone).fade changed
  else if after < before then recomputeHeads zone changed.occupancy.config[zone].fade changed
  else changed

/-- The full grace time of a zone, running. -/
def fullGrace (o : OccupancyUnit) (zone : Zone) : Timer := .running (graceTime o.config[zone].grace)

/-- A wake of a zone with its cause (R122). An expiry of the grace time that is due is overtaken by it (R126). -/
def wake (cause : WakeCause) (zone : Zone) (s : State) : State :=
  let r := s.occupancy.records[zone]
  let woken : OccupancyRecord := { state := .occupied, timer := fullGrace s.occupancy zone, cause := cause, overtaken := r.graceDue }
  match r.state with
  | .follow => s
  | .occupied => putOccupancy zone woken s
  | .vacant => changeOccupancy zone woken s
  | .dark => changeOccupancy zone woken s

/-- One wake per zone, in list order (R122). -/
def wakeAll (cause : WakeCause) (zones : List Zone) (s : State) : State :=
  zones.foldl (fun s z => wake cause z s) s

/-- The wakes of a zone set, in ascending zone order (R127, R128). -/
def wakeSet (cause : WakeCause) (zones : ZoneSet) (s : State) : State := wakeAll cause (members zones) s

/-- The timer of an OCCUPIED record has run out: the record becomes VACANT (R124). -/
def becomeVacant (zone : Zone) (s : State) : State :=
  let vacant := s.occupancy.config[zone].vacant
  changeOccupancy zone
    { s.occupancy.records[zone] with
      state := .vacant, timer := if vacant = 0 then .stopped else .running (vacantTime vacant), overtaken := false } s

/-- The timer of a VACANT record has run out: the record becomes DARK (R125). -/
def becomeDark (zone : Zone) (s : State) : State :=
  changeOccupancy zone { s.occupancy.records[zone] with state := .dark, timer := .stopped, overtaken := false } s

/-- GRACE_EXPIRY (R124, R126): the grace time of an OCCUPIED record ends, once all of it has passed (log 3). An expiry that was due when a wake was taken first at the same moment does not happen: the record stays OCCUPIED at its full grace time. -/
def execGraceExpiry (zone : Zone) (s : State) : Host.Outcome State Fault Refusal :=
  let r := s.occupancy.records[zone]
  if r.state = .occupied ∧ r.timer.isRunning then
    if r.overtaken then .next (putOccupancy zone { r with overtaken := false } s)
    else .next (becomeVacant zone (expiryOf r.timer s))
  else .next s

/-- VACANT_EXPIRY (R125, R126): the vacant time of a VACANT record ends, once all of it has passed (log 3). -/
def execVacantExpiry (zone : Zone) (s : State) : Host.Outcome State Fault Refusal :=
  let r := s.occupancy.records[zone]
  if r.state = .vacant ∧ r.timer.isRunning then .next (becomeDark zone (expiryOf r.timer s)) else .next s

/-- The entry of LISTEN: the records of enabled zones become OCCUPIED with a full grace time and cause START, and OCCUPANCY_CHANGED names every zone made OCCUPIED (R121). With none it is not raised (log 17). -/
def occupyEnabled (s : State) : State :=
  let made := setOf fun z => s.occupancy.config[z].enable
  let records := tabulate 32 fun z =>
    if s.occupancy.config[z].enable then
      { state := .occupied, timer := fullGrace s.occupancy z, cause := WakeCause.start, overtaken := false }
    else s.occupancy.records[z]
  let occupied := s.setOccupancy { s.occupancy with records := records }
  if made = 0 then occupied else raise (.occupancyChanged made) occupied

end Sys2Proof.Machine
end

