-- ==== Sys2Proof/Machine/Settings.lean ====
section
/-! DEFINITION. The Zone Store: the stamp clock, the merge rule and the looks (R2, R5 to R8, R13, R16). -/

namespace Sys2Proof.Machine

open Sys2Proof

/-- Of two settings, `x` stands higher in stamp order: by stamp, then by origin (R2). -/
def higher (x y : Setting) : Bool :=
  y.stamp.toNat < x.stamp.toNat || (x.stamp == y.stamp && decide (y.origin.val < x.origin.val))

/-- The pairs (stamp, origin) are equal (R2). -/
def samePair (x y : Setting) : Bool := x.stamp == y.stamp && x.origin == y.origin

/-- Raises the stamp clock to the greater of its value and a stamp (R5). -/
def raiseClock (stamp : Word32) (s : State) : State :=
  if s.zoneStore.clock.toNat < stamp.toNat then s.setZoneStore { s.zoneStore with clock := stamp } else s

/-- A setting replaces its zone's entry: ZONE_CHANGED is raised and the zone's heads receive the new effective setting (R8). -/
def replaceEntry (zone : Zone) (x : Setting) (s : State) : State :=
  recomputeHeads zone x.fade
    (raise (.zoneChanged (oneOf zone)) (s.setZoneStore { s.zoneStore with table := update s.zoneStore.table zone (some x) }))

/-- The merge rule (R7). -/
def merge (zone : Zone) (x : Setting) (s : State) : State :=
  let raised := raiseClock x.stamp s
  match raised.zoneStore.table[zone] with
  | none => replaceEntry zone x raised
  | some held =>
    if higher x held then replaceEntry zone x raised
    else if samePair x held then raised
    else countNode .setSuperseded raised

/-- The settings a look lists, in list order; none for an undefined look or without a library (R16). -/
def lookSettings (z : ZoneStore) (look : Look) : List PoolSetting :=
  match z.library with
  | none => []
  | some lib =>
    let range := lib.directory[look]
    (lib.pool.toList.drop range.start).take range.count

/-- Merges each setting of a look, in list order, with one stamp and origin (R13, R21). -/
def mergeLook (look : Look) (stamp : Word32) (origin : Station) (s : State) : State :=
  (lookSettings s.zoneStore look).foldl
    (fun s p => merge p.zone
      { colour := p.colour, level := p.level, fade := p.fade, stamp := stamp, origin := origin, source := .recall look } s) s

/-- The zones of a look, in list order. -/
def lookZones (z : ZoneStore) (look : Look) : List Zone := (lookSettings z look).map (fun p => p.zone)

/-- The stamp of an own publication (R6): the clock's next value, or `none` with the CLOCK_EXHAUSTED flag set. -/
def takeStamp (s : State) : Option Word32 × State :=
  if s.zoneStore.clock = maxWord then (none, s.setZoneStore { s.zoneStore with exhausted := true })
  else
    let stamp := s.zoneStore.clock + 1
    (some stamp, s.setZoneStore { s.zoneStore with clock := stamp })

end Sys2Proof.Machine
end

