-- ==== Sys2Proof/Machine/Publish.lean ====
section
/-! DEFINITION. Own publications as performed in RUNNING (R20 to R22, R129, R141, R142). -/

namespace Sys2Proof.Machine

open Sys2Proof

/-- A publication's end: the state, its result, and whether an unsent SYNC_ASK record was displaced by its record (R86). -/
structure Published where
  state : State
  result : ResultCode
  lostAsk : Bool

/-- The result an offer gives a publication (R22, R129). -/
def OfferOutcome.result : OfferOutcome → ResultCode
  | .entered => .ok
  | .notSent => .notSent
  | .dropped => .dropped

/-- The end of a publication whose record has been offered. -/
def publishedBy (o : Offer) : Published := { state := o.state, result := o.outcome.result, lostAsk := o.lostAsk }

/-- The own station. A node that publishes has one; without one the model writes station 0 (log 16). -/
def ownStation (s : State) : Station := s.node.station.getD 0

/-- An own SET publication in RUNNING, in the order of R20: stamp, local merge, wake, record. -/
def performSet (zone : Zone) (colour : Colour) (level : Byte) (fade : FadeCode) (waking : Bool) (cause : WakeCause) (s : State) : Published :=
  match takeStamp s with
  | (none, refused) => { state := refused, result := .clockExhausted, lostAsk := false }
  | (some stamp, stamped) =>
    let merged := merge zone
      { colour := colour, level := level, fade := fade, stamp := stamp, origin := ownStation s, source := .set } stamped
    let woken := if waking then wake cause zone merged else merged
    publishedBy (offerRecord (.set zone colour level fade waking) stamp woken)

/-- An own RECALL publication in RUNNING, in the order of R21. -/
def performRecall (look : Look) (waking : Bool) (cause : WakeCause) (s : State) : Published :=
  if (lookSettings s.zoneStore look).isEmpty then { state := s, result := .lookUndefined, lostAsk := false }
  else
    match takeStamp s with
    | (none, refused) => { state := refused, result := .clockExhausted, lostAsk := false }
    | (some stamp, stamped) =>
      let merged := mergeLook look stamp (ownStation s) stamped
      let woken := if waking then wakeAll cause (lookZones s.zoneStore look) merged else merged
      publishedBy (offerRecord (.recall look (s.zoneStore.checksum.getD 0) waking) stamp woken)

/-- An own OCCUPY publication in RUNNING: the local wake of the listed zones, then the announcement, whose stamp is the clock as it stands (R128, R129). -/
def performOccupy (zones : ZoneSet) (cause : WakeCause) (s : State) : Published :=
  let woken := wakeSet cause zones s
  publishedBy (offerRecord (.occupy zones) woken.zoneStore.clock woken)

/-- The level an action asks for, from the zone's effective setting (R141, R142). -/
def actionLevel (kind : ActionKind) (step : Nat) (shown : Shown) (default : Byte) : Byte :=
  match kind with
  | .off => 0
  | .toggle => if shown.level = 0 then default else 0
  | .raise => byteOf (min 255 (shown.level.toNat + step))
  | .lower => byteOf (shown.level.toNat - step)

/-- The fade code an action asks for: the zone's switch fade code, or 2 (R141, R142). -/
def actionFade (kind : ActionKind) (switchFade : FadeCode) : FadeCode :=
  match kind with
  | .off => switchFade
  | .toggle => switchFade
  | .raise => 2
  | .lower => 2

/-- An input action evaluated now against the zone's effective setting, and the SET it gives performed, with wake and cause SWITCH (R114, R138). -/
def performAction (kind : ActionKind) (zone : Zone) (step : Nat) (s : State) : Published :=
  let shown := effective s.zoneStore zone
  let d := s.zoneStore.defaults[zone]
  performSet zone shown.colour (actionLevel kind step shown d.level) (actionFade kind d.switchFade) true .switch s

/-- A held request performed as if newly requested (R113). -/
def performHeld (h : HeldRequest) (s : State) : Published :=
  match h with
  | .set zone colour level fade waking cause => performSet zone colour level fade waking cause s
  | .recall look waking cause => performRecall look waking cause s
  | .occupy zones cause => performOccupy zones cause s
  | .action kind zone step => performAction kind zone step s

end Sys2Proof.Machine
end

