-- ==== Sys2Proof/Machine/CatchUp.lean ====
section
/-! DEFINITION. PRESENCE creation, the asker, the entry of RUNNING, the Held List, publication requests by phase, and the responder (R19, R70, R71, R101 to R115, R128). -/

namespace Sys2Proof.Machine

open Sys2Proof

/-! ## The node's own PRESENCE -/

/-- The phases in which PRESENCE is created, as it announces them (R28, R70). -/
def Phase.announced : Phase → Option AnnouncedPhase
  | .loading => none
  | .commission => none
  | .listen => some .listen
  | .catchUp => some .catchUp
  | .running => some .running
  | .mute => none

/-- The single-lane flag: fewer than two lanes are UP (R28). -/
def fewLanes (s : State) : Bool := !(s.lanes.a.state == .up && s.lanes.b.state == .up)

/-- A PRESENCE record with a live copy is in the queue (R71). -/
def presenceQueued (s : State) : Bool := s.tx.records.any fun r => r.payload.isPresence && r.live

/-- Creates the node's PRESENCE record, unless one is queued (R70, R71). -/
def createPresence (s : State) : State :=
  match s.node.phase.announced with
  | none => s
  | some phase =>
    if presenceQueued s then s
    else (offerRecord (.presence (s.zoneStore.checksum.getD 0) phase s.catchUp.incomplete (fewLanes s)) s.zoneStore.clock s).state

/-! ## The asker -/

/-- The release of the Held List: emptied first, then each request performed in list order, its result going nowhere (R113). The asker is FINISHED, so a SYNC_ASK displaced on the way changes nothing (R102; log 18). The release is one step: no frame is accepted between two of its publications, a DESIGN CHOICE (log 31). -/
def releaseHeld (s : State) : State :=
  s.catchUp.held.foldl (fun s h => (performHeld h s).state) (s.setCatchUp { s.catchUp with held := [] })

/-- The entry of RUNNING, in the order of R105, with the asker FINISHED and its window stopped. -/
def enterRunning (how : Completion) (s : State) : State :=
  let finished := s.setCatchUp { s.catchUp with
    asker := .finished, window := .stopped,
    incomplete := match how with
      | .incomplete => true
      | .complete => s.catchUp.incomplete }
  let running := finished.setNode { finished.node with phase := .running }
  releaseHeld (createPresence (raise (.catchUpDone how) running))

/-- Offers a SYNC_ASK for every zone, with the stamp clock as its stamp (R101). -/
def offerAsk (s : State) : Offer := offerRecord (.syncAsk allZones) s.zoneStore.clock s

/-- The report "ask failed" (R103): a first failure is retried at once; a second, or a retry that is itself not entered, ends the catch-up incomplete. -/
def askFailed (s : State) : State :=
  if s.catchUp.asker = .asking then
    if s.catchUp.retry then enterRunning .incomplete s
    else
      let o := offerAsk (s.setCatchUp { s.catchUp with retry := true })
      if o.outcome = .entered then o.state else enterRunning .incomplete o.state
  else s

/-- The report "ask sent" (R102): the window starts. -/
def askSent (s : State) : State :=
  if s.catchUp.asker = .asking then s.setCatchUp { s.catchUp with asker := .window, window := .running windowTime } else s

/-- The entry of CATCH_UP (R101, R116, R159). -/
def enterCatchUp (s : State) : State :=
  let asking := (s.setNode { s.node with phase := .catchUp }).setCatchUp { s.catchUp with asker := .asking, retry := false, window := .stopped }
  let o := offerAsk asking
  if o.outcome = .entered then o.state else askFailed o.state

/-- The report made for a SYNC_ASK record displaced with no copy SENT (R86, R94). -/
def reportLost (lostAsk : Bool) (s : State) : State := if lostAsk then askFailed s else s

/-- CATCH_UP_WINDOW_EXPIRY (R104): at the end of a running window the node enters RUNNING complete (log 3). -/
def execCatchUpWindowExpiry (s : State) : Host.Outcome State Fault Refusal :=
  if s.catchUp.window.isRunning then .next (enterRunning .complete (expiryOf s.catchUp.window s)) else .next s

/-! ## Requests to publish, by phase -/

/-- A request's end: the state and its result. -/
structure Answer where
  state : State
  result : ResultCode

/-- The end of a publication performed: its displaced SYNC_ASK, if any, is reported once its record has been entered (R86). -/
def answerOf (p : Published) : Answer := { state := reportLost p.lostAsk p.state, result := p.result }

/-- The room of the Held List (R110). -/
def heldRoom : Nat := 8

/-- Merges an OCCUPY request into the first held one: union of the zone sets, the newer cause (R112); `none` if none is held. -/
def mergeHeldOccupy (zones : ZoneSet) (cause : WakeCause) : List HeldRequest → Option (List HeldRequest)
  | [] => none
  | .occupy held _ :: rest => some (.occupy (held ||| zones) cause :: rest)
  | h :: rest => (mergeHeldOccupy zones cause rest).map (fun l => h :: l)

/-- Adds a request to the end of the Held List, or discards it when 8 are held (R111). -/
def appendHeld (h : HeldRequest) (s : State) : Answer :=
  if s.catchUp.held.length < heldRoom then
    { state := s.setCatchUp { s.catchUp with held := s.catchUp.held ++ [h] }, result := .held }
  else { state := countNode .heldDrop s, result := .heldFull }

/-- A request taken in LISTEN or CATCH_UP (R111, R112). -/
def holdRequest (h : HeldRequest) (s : State) : Answer :=
  match h with
  | .occupy zones cause =>
    match mergeHeldOccupy zones cause s.catchUp.held with
    | some list => { state := s.setCatchUp { s.catchUp with held := list }, result := .held }
    | none => appendHeld h s
  | .set _ _ _ _ _ _ => appendHeld h s
  | .recall _ _ _ => appendHeld h s
  | .action _ _ _ => appendHeld h s

/-- A request to publish SET or RECALL, or an input action, dealt with by phase (R19, R138). -/
def requestByPhase (h : HeldRequest) (s : State) : Answer :=
  match s.node.phase with
  | .loading => { state := s, result := .refusedPhase }
  | .commission => { state := s, result := .refusedPhase }
  | .listen => holdRequest h s
  | .catchUp => holdRequest h s
  | .running => answerOf (performHeld h s)
  | .mute => { state := s, result := .muted }

/-- A request to publish OCCUPY dealt with by phase, its local wake first (R128). -/
def requestOccupy (zones : ZoneSet) (cause : WakeCause) (s : State) : Answer :=
  match s.node.phase with
  | .loading => { state := s, result := .refusedPhase }
  | .commission => { state := s, result := .refusedPhase }
  | .listen => holdRequest (.occupy zones cause) (wakeSet cause zones s)
  | .catchUp => holdRequest (.occupy zones cause) (wakeSet cause zones s)
  | .running => answerOf (performOccupy zones cause s)
  | .mute => { state := wakeSet cause zones s, result := .muted }

/-! ## The responder -/

/-- The zones whose entries are HELD. -/
def heldZones (z : ZoneStore) : ZoneSet := setOf fun zone => z.table[zone].isSome

/-- An accepted SYNC_ASK reaches the responder (R106). -/
def acceptAsk (wanted : ZoneSet) (s : State) : State :=
  if s.node.phase = .running then
    let answers := s.catchUp.answers ||| (wanted &&& heldZones s.zoneStore)
    let backoff :=
      if answers ≠ 0 ∧ s.catchUp.backoff.isRunning = false then .running (backoffTime (ownStation s)) else s.catchUp.backoff
    s.setCatchUp { s.catchUp with answers := answers, backoff := backoff }
  else s

/-- An entry answers its zone: its pair is greater than or equal to the own entry's (R107). -/
def answersZone (z : ZoneStore) (e : SyncEntry) : Bool :=
  match z.table[e.zone] with
  | some own => higher e.setting own || samePair e.setting own
  | none => false

/-- The pending answer set with one entry's zone struck, if the entry answers it. -/
def strikeEntry (z : ZoneStore) (answers : ZoneSet) (e : SyncEntry) : ZoneSet :=
  if inSet answers e.zone && answersZone z e then answers &&& ~~~(oneOf e.zone) else answers

/-- The entries of an accepted SYNC_ENTRY, already merged, strike the zones they answer; an empty set stops the back-off timer (R107). -/
def strikeAnswers (entries : List SyncEntry) (s : State) : State :=
  let answers := entries.foldl (strikeEntry s.zoneStore) s.catchUp.answers
  s.setCatchUp { s.catchUp with answers := answers, backoff := if answers = 0 then .stopped else s.catchUp.backoff }

/-- Four entries in each record, the last holding the remaining one to four (R108). -/
def groupsOfFour {α : Type} : List α → List (List α)
  | a :: b :: c :: d :: rest => [a, b, c, d] :: groupsOfFour rest
  | [] => []
  | few => [few]

/-- The entries the responder holds for a zone set, in ascending zone order (R108). -/
def answerEntries (z : ZoneStore) (answers : ZoneSet) : List SyncEntry :=
  (members answers).filterMap fun zone => z.table[zone].map fun x => { zone := zone, setting := x }

/-- SYNC_ENTRY records for the pending zones are offered, the set is cleared and the timer stopped (R108). -/
def answerAll (s : State) : State :=
  let offered := (groupsOfFour (answerEntries s.zoneStore s.catchUp.answers)).foldl
    (fun s entries => (offerRecord (.syncEntry entries) s.zoneStore.clock s).state) s
  offered.setCatchUp { offered.catchUp with answers := 0, backoff := .stopped }

/-- BACKOFF_EXPIRY (R108): at the end of a running back-off the pending zones are answered (log 3). -/
def execBackoffExpiry (s : State) : Host.Outcome State Fault Refusal :=
  if s.catchUp.backoff.isRunning then .next (answerAll (expiryOf s.catchUp.backoff s)) else .next s

end Sys2Proof.Machine
end

