-- ==== Sys2Proof/Machine/Inputs.lean ====
section
/-! DEFINITION. The Input Unit: sensing, debouncing, edges, repeats and refreshes (R134 to R142). -/

namespace Sys2Proof.Machine

open Sys2Proof

/-- The sensed level of a line is ACTIVE: high for ACTIVE_HIGH, low for ACTIVE_LOW (R135). -/
def sensedActive (cfg : InputConfig) (high : Bool) : Bool := high != cfg.activeLow

/-- The input is used: its kind is not UNUSED. -/
def InputConfig.used (cfg : InputConfig) : Bool :=
  match cfg.kind with
  | .unused => false
  | .sensor _ => true
  | .recall _ => true
  | .action _ _ _ => true

/-- The phases in which the Input Unit follows the lines: from the entry of LISTEN on (R135). -/
def Phase.inputsFollowed : Phase → Bool
  | .loading => false
  | .commission => false
  | .listen => true
  | .catchUp => true
  | .running => true
  | .mute => true

/-- Replaces an input record. -/
def putInput (line : Line) (r : InputRecord) (s : State) : State :=
  s.setInputs { s.inputs with records := update s.inputs.records line r }

/-- INPUT_LEVEL_CHANGE (R135, R136): the line takes its level; where the Input Unit follows it, a sensed level that differs from the debounced level starts the debounce timer, and one that is back at it stops the timer. -/
def execInputLevelChange (line : Line) (high : Bool) (s : State) : Host.Outcome State Fault Refusal :=
  if s.pins.inputLines[line] = high then .next s
  else
    let moved := s.setPins { s.pins with inputLines := update s.pins.inputLines line high }
    let cfg := s.inputs.config[line]
    let r := s.inputs.records[line]
    if s.node.phase.inputsFollowed && cfg.used then
      if sensedActive cfg high = r.active then .next (putInput line { r with debounce := .stopped } moved)
      else .next (putInput line { r with debounce := .running (debounceTime cfg.debounce) } moved)
    else .next moved

/-- RAISE and LOWER repeat while held (R142). -/
def ActionKind.repeats : ActionKind → Bool
  | .off => false
  | .toggle => false
  | .raise => true
  | .lower => true

/-- The request an input of a kind makes, handed to its owner (R138 to R142). -/
def requestOfKind (kind : InputKind) (s : State) : State :=
  match kind with
  | .unused => s
  | .sensor zone => (requestOccupy (oneOf zone) .localSensor s).state
  | .recall look => (requestByPhase (.recall look true .switch) s).state
  | .action kind zone step => (requestByPhase (.action kind zone step) s).state

/-- The timer an activation starts: refresh for SENSOR, repeat for RAISE and LOWER (R139, R142). -/
def startInputTimer (kind : InputKind) (r : InputRecord) : InputRecord :=
  match kind with
  | .unused => r
  | .sensor _ => { r with refresh := .running refreshTime }
  | .recall _ => r
  | .action kind _ _ => if kind.repeats then { r with repeating := .running repeatTime } else r

/-- The debounced level takes the sensed level (R136, R137). An activation makes the request of the input's kind; a release stops the repeat and refresh timers. -/
def settleInput (line : Line) (s : State) : State :=
  let cfg := s.inputs.config[line]
  let r := s.inputs.records[line]
  let settled := { r with active := sensedActive cfg s.pins.inputLines[line], debounce := Timer.stopped }
  if settled.active && !r.active then requestOfKind cfg.kind (putInput line (startInputTimer cfg.kind settled) s)
  else if r.active && !settled.active then putInput line { settled with repeating := .stopped, refresh := .stopped } s
  else putInput line settled s

/-- The repeat timer restarts and the action is taken again (R142). -/
def repeatInput (line : Line) (s : State) : State :=
  requestOfKind s.inputs.config[line].kind (putInput line { s.inputs.records[line] with repeating := .running repeatTime } s)

/-- The refresh timer restarts and the OCCUPY request is made again (R139). -/
def refreshInput (line : Line) (s : State) : State :=
  requestOfKind s.inputs.config[line].kind (putInput line { s.inputs.records[line] with refresh := .running refreshTime } s)

/-- DEBOUNCE_EXPIRY (R136, R137): the debounce timer, if it runs, comes to its end (log 3). -/
def execDebounceExpiry (line : Line) (s : State) : Host.Outcome State Fault Refusal :=
  let timer := s.inputs.records[line].debounce
  if timer.isRunning then .next (settleInput line (expiryOf timer s)) else .next s

/-- REPEAT_EXPIRY (R142): the repeat timer, if it runs, comes to its end (log 3). -/
def execRepeatExpiry (line : Line) (s : State) : Host.Outcome State Fault Refusal :=
  let timer := s.inputs.records[line].repeating
  if timer.isRunning then .next (repeatInput line (expiryOf timer s)) else .next s

/-- REFRESH_EXPIRY (R139): the refresh timer, if it runs, comes to its end (log 3). -/
def execRefreshExpiry (line : Line) (s : State) : Host.Outcome State Fault Refusal :=
  let timer := s.inputs.records[line].refresh
  if timer.isRunning then .next (refreshInput line (expiryOf timer s)) else .next s

/-- A used input at the entry of LISTEN takes its sensed level, without an edge; a SENSOR found ACTIVE starts its refresh timer (R135). -/
def senseInput (cfg : InputConfig) (high : Bool) (r : InputRecord) : InputRecord :=
  let active := sensedActive cfg high
  match cfg.kind with
  | .unused => r
  | .sensor _ => { active := active, debounce := .stopped, repeating := .stopped, refresh := if active then .running refreshTime else .stopped }
  | .recall _ => { active := active, debounce := .stopped, repeating := .stopped, refresh := .stopped }
  | .action _ _ _ => { active := active, debounce := .stopped, repeating := .stopped, refresh := .stopped }

/-- Every input at the entry of LISTEN (R135). -/
def senseInputs (s : State) : State :=
  s.setInputs { s.inputs with
    records := tabulate 8 fun i => senseInput s.inputs.config[i] s.pins.inputLines[i] s.inputs.records[i] }

end Sys2Proof.Machine
end

