-- ==== Sys2Proof/Machine/Lanes.lean ====
section
/-! DEFINITION. The ends of attempts, abandons, and lanes going DOWN and coming UP (R38, R43 to R47, R89 to R93). -/

namespace Sys2Proof.Machine

open Sys2Proof

/-- Every record whose copies are all at rest leaves the queue; an unsent SYNC_ASK among them is reported failed (R93, R94). -/
def settle (s : State) : State :=
  (s.tx.records.filter fun r => !r.live).foldl (fun s r => reportLost r.unsentAsk s)
    (s.setTx { s.tx with records := s.tx.records.filter TxRecord.live })

/-- The record's copy on the lane is PENDING. -/
def pendingOn (L : Lane) (r : TxRecord) : Bool := r.copies.get L == .pending

/-- An UP lane goes DOWN: LANE_DOWN is raised, every copy PENDING on it becomes ABANDONED and is counted, and the abandon count returns to 0 (R46, R91). -/
def takeLaneDown (L : Lane) (s : State) : State :=
  let down := raise (.laneDown (oneLane L)) (putLane L { state := .down, abandons := 0 } s)
  let counted := (s.tx.records.filter (pendingOn L)).foldl (fun s _ => countLane L .txAbandoned s) down
  counted.setTx { counted.tx with
    records := counted.tx.records.map fun r => if pendingOn L r then r.setCopy L .abandoned else r }

/-- A DOWN lane comes UP: LANE_UP is raised (R47). -/
def bringLaneUp (L : Lane) (s : State) : State :=
  let lane := s.lanes.get L
  if lane.state = .down then raise (.laneUp (oneLane L)) (putLane L { lane with state := .up } s) else s

/-- The failed attempts after which a copy is ABANDONED (R43). -/
def lastAttempt : Nat := 16

/-- The consecutive-abandon count of an UP lane rises by 1; at 2 the lane goes DOWN (R44). -/
def countAbandon (L : Lane) (s : State) : State :=
  let lane := s.lanes.get L
  if lane.state = .up then
    if 2 ≤ lane.abandons + 1 then takeLaneDown L s else putLane L { lane with abandons := lane.abandons + 1 } s
  else s

/-- The copy in flight on the lane fails an attempt: TX_CONTENTION is counted, and the copy returns to PENDING in its place, or is ABANDONED at 16 (R43, R90). -/
def failAttempt (L : Lane) (s : State) : State :=
  match inFlightOn L s.tx.records with
  | none => s
  | some r =>
    let attempts := r.attempts.get L + 1
    let tried := countLane L .txContention s
    if attempts < lastAttempt then
      changeInFlight L (fun r => { r.setCopy L .pending with attempts := r.attempts.put L attempts }) tried
    else
      let abandoned := changeInFlight L (fun r => { r.setCopy L .abandoned with attempts := r.attempts.put L attempts })
        (countLane L .txAbandoned tried)
      settle (countAbandon L abandoned)

/-- CONTEST_LOST (R42, R43). -/
def execContestLost (L : Lane) (s : State) : Host.Outcome State Fault Refusal := .next (failAttempt L s)

/-- COPY_END_NOTHING_TAKEN_BACK (R43). -/
def execCopyEndNothingTakenBack (L : Lane) (s : State) : Host.Outcome State Fault Refusal := .next (failAttempt L s)

/-- The copy in flight is taken back as own (R38, R89): SENT, TX_SENT, abandon count 0, a DOWN lane UP, and the first SENT copy of a SYNC_ASK reported. -/
def completeCopy (L : Lane) (s : State) : State :=
  match inFlightOn L s.tx.records with
  | none => s
  | some r =>
    let up := bringLaneUp L s
    let sent := countLane L .txSent (changeInFlight L (fun r => r.setCopy L .sent) up)
    let cleared := putLane L { sent.lanes.get L with abandons := 0 } sent
    let reported := if r.payload.isAsk && r.copies.get L.other != .sent then askSent cleared else cleared
    settle reported

/-- The fault line's level. -/
def setFaultLine (L : Lane) (asserted : Bool) (s : State) : State :=
  s.setPins { s.pins with faultLines := s.pins.faultLines.put L asserted }

/-- A rising fault line abandons the copy in flight on its lane (R43, R91). -/
def abandonInFlight (L : Lane) (s : State) : State :=
  match inFlightOn L s.tx.records with
  | none => s
  | some _ => countLane L .txAbandoned (changeInFlight L (fun r => r.setCopy L .abandoned) s)

/-- LANE_FAULT_ASSERT (R34, R43, R46, R91): the line rises; the copy in flight is abandoned, an UP lane goes DOWN, and records at rest leave. A line already asserted does not rise (log 24). -/
def execLaneFaultAssert (L : Lane) (s : State) : Host.Outcome State Fault Refusal :=
  if s.pins.faultLines.get L then .next s
  else
    let risen := abandonInFlight L (setFaultLine L true s)
    .next (settle (if (risen.lanes.get L).state = .up then takeLaneDown L risen else risen))

/-- LANE_FAULT_CLEAR (R34, R47): the line falls; the lane state stays, and the receiver takes the frames that begin from now on. -/
def execLaneFaultClear (L : Lane) (s : State) : Host.Outcome State Fault Refusal := .next (setFaultLine L false s)

end Sys2Proof.Machine
end

