-- ==== Sys2Proof/Machine/Flags.lean ====
section
/-! DEFINITION. The status flags and lines that follow from the state: ISOLATED, config-busy, ATTN, HEARD (R48, R74, R180, R187). -/

namespace Sys2Proof.Machine

open Sys2Proof

/-- ISOLATED: neither lane is UP (R48). -/
def isolated (s : State) : Bool := s.lanes.a.state != .up && s.lanes.b.state != .up

/-- Config-busy: a Config Store byte write is under way (R187). -/
def configBusy (s : State) : Bool := s.store.isWriting

/-- The pending flags in the order of the priorities (R178). -/
def pendingFlags (r : EventRecords) : List Bool :=
  [r.stationConflict.isSome, r.configInvalid.isSome, r.laneDown.isSome, r.laneUp.isSome, r.peerLost.isSome, r.peerJoined.isSome,
   r.peerRestart.isSome, r.libraryMismatch.isSome, r.txDrop.isSome, r.catchUpDone.isSome, r.zoneChanged.isSome,
   r.occupancyChanged.isSome, r.counterSaturated.isSome, r.configWriteDone.isSome]

/-- ATTN is asserted while at least one record is pending and its kind is enabled (R180). -/
def attn (s : State) : Bool :=
  (pendingFlags s.events.records).zipIdx.any fun p => p.1 && s.events.mask.getLsbD p.2

/-- A peer's lane is HEARD while its count is below 3 (R74). -/
def laneHeard (L : Lane) (r : PeerRecord) : Bool := decide (r.sinceLane.get L < 3)

end Sys2Proof.Machine
end

