-- ==== Sys2Proof/Machine/Operands.lean ====
section
/-! DEFINITION. The arguments of port requests and their ranges (R185, R192). An argument out of range is `none`. -/

namespace Sys2Proof.Machine

open Sys2Proof

/-- The arguments of PUBLISH_SET: zone at most 31, no options bit set that the SET layout shows as zero. -/
def setArgs (zone r g b level options : Byte) : Option (Zone × Colour × Byte × FadeCode × Bool) := do
  let z ← below 32 zone
  let fade ← below 16 (options &&& 0x0F#8)
  if options &&& 0xE0#8 = 0 then some (z, ⟨r, g, b⟩, level, fade, options.getLsbD 4) else none

/-- The arguments of PUBLISH_RECALL: look at most 15, no options bit but the wake bit. -/
def recallArgs (look options : Byte) : Option (Look × Bool) := do
  let k ← below 16 look
  if options &&& 0xFE#8 = 0 then some (k, options.getLsbD 0) else none

/-- The argument of PUBLISH_OCCUPY: a zone set that is not empty. -/
def occupyArg (zones : ZoneSet) : Option ZoneSet := if zones = 0 then none else some zones

/-- The arguments of READ_COUNTER: a first index and a count, not 0, that end at 28 at most. -/
def counterArgs (first count : Byte) : Option (Nat × Nat) :=
  if count.toNat = 0 ∨ 28 < first.toNat + count.toNat then none else some (first.toNat, count.toNat)

/-- The argument of CONFIG_POINT: an address 0..2047. -/
def pointArg (address : Word16) : Option Nat := if 2047 < address.toNat then none else some address.toNat

/-- The argument of CONFIG_READ with the pointer where it stands: not 0, and no byte past the end. -/
def readArg (pointer : Nat) (count : Byte) : Option Nat :=
  if count.toNat = 0 ∨ Config.storeBytes < pointer + count.toNat then none else some count.toNat

/-- The address a CONFIG_WRITE writes: the pointer's, unless it stands past the end. -/
def writeArg (pointer : Nat) : Option (Fin 2048) := if h : pointer < 2048 then some ⟨pointer, h⟩ else none

end Sys2Proof.Machine
end

