-- ==== Sys2Proof/Machine/Presence.lean ====
section
/-! DEFINITION. The Peer Table: ageing, hearing and announcements, and the expiry of the presence interval (R66 to R78). -/

namespace Sys2Proof.Machine

open Sys2Proof

/-- The state of a record whose intervals since heard have risen (R69). -/
def agedState (state : PeerState) (since : Nat) : PeerState :=
  match state with
  | .absent => .absent
  | .present => if 3 ≤ since then .silent else .present
  | .silent => if 8 ≤ since then .lost else .silent
  | .lost => .lost
  | .self => .self

/-- Whether the timer ages a record: ABSENT and SELF are not aged (R69). -/
def PeerState.ages : PeerState → Bool
  | .absent => false
  | .present => true
  | .silent => true
  | .lost => true
  | .self => false

/-- A record one presence interval older (R69). -/
def agePeer (r : PeerRecord) : PeerRecord :=
  if r.state.ages then
    let since := min 8 (r.sinceHeard + 1)
    { r with
      state := agedState r.state since, sinceHeard := since,
      sinceLane := ⟨min 3 (r.sinceLane.a + 1), min 3 (r.sinceLane.b + 1)⟩ }
  else r

/-- Every record aged; PEER_LOST names the stations that became LOST (R69). -/
def agePeers (s : State) : State :=
  let peers := mapTable agePeer s.presence.peers
  let lost := setOf fun n => s.presence.peers[n].state == .silent && peers[n].state == .lost
  let aged := s.setPresence { s.presence with peers := peers }
  if lost = 0 then aged else raise (.peerLost lost) aged

/-- Replaces a peer record. -/
def putPeer (n : Station) (r : PeerRecord) (s : State) : State :=
  s.setPresence { s.presence with peers := update s.presence.peers n r }

/-- A GOOD frame of origin `n` is taken on lane `L` (R72, R75, R78). A SELF record takes the crossed flag alone. -/
def hearPeer (L : Lane) (n : Station) (crossed : Bool) (s : State) : State :=
  let r := s.presence.peers[n]
  let marked := { r with crossed := r.crossed || crossed }
  let heard := { marked with state := .present, sinceHeard := 0, sinceLane := r.sinceLane.put L 0 }
  match r.state with
  | .self => putPeer n marked s
  | .present => putPeer n heard s
  | .silent => putPeer n heard s
  | .absent => raise (.peerJoined (oneOf n)) (putPeer n heard s)
  | .lost => raise (.peerJoined (oneOf n)) (putPeer n heard s)

/-- Whether an announced library checksum disagrees with the own one (R77). -/
def mismatches (own : Option Word16) (announced : Word16) : Bool :=
  match own with
  | some c => c != announced
  | none => true

/-- An accepted PRESENCE overwrites the announced fields of its origin's record, SELF's too, and decides the library mismatch flag (R76 to R78; log 28). -/
def acceptPresence (n : Station) (stamp : Word32) (checksum : Word16) (phase : AnnouncedPhase) (incomplete singleLane : Bool) (s : State) : State :=
  let r := s.presence.peers[n]
  let mismatch := mismatches s.zoneStore.checksum checksum
  let written := putPeer n
    { r with checksum := checksum, phase := some phase, incomplete := incomplete, singleLane := singleLane, clock := stamp, mismatch := mismatch } s
  if mismatch && !r.mismatch then raise (.libraryMismatch (oneOf n)) written else written

/-- The presence timer starts, one interval from now (R68). -/
def startPresenceTimer (s : State) : State :=
  s.setPresence { s.presence with timer := .running s.presence.interval }

/-- The count of expiries since LISTEN entry; the second ends LISTEN (R70, R159, R169). -/
def countListenExpiry (s : State) : State :=
  if s.node.phase = .listen then
    let counted := s.setNode { s.node with listenExpiries := s.node.listenExpiries + 1 }
    if 2 ≤ counted.node.listenExpiries then enterCatchUp counted else counted
  else s

/-- PRESENCE_EXPIRY (R68 to R71, R159): while the timer runs, the next interval starts, the records age, the PRESENCE record is created in the phases that create one, and the second expiry in LISTEN enters CATCH_UP. It comes once all of the interval has passed (log 3). -/
def execPresenceExpiry (s : State) : Host.Outcome State Fault Refusal :=
  if s.presence.timer.isRunning then
    .next (countListenExpiry (createPresence (agePeers (startPresenceTimer (expiryOf s.presence.timer s)))))
  else .next s

end Sys2Proof.Machine
end

