-- ==== Sys2Proof/Machine/Validate.lean ====
section
/-! DEFINITION. The Config Store as LOADING reads it: the layout of R193 and the tests of R165. A field out of range is `none`. -/

namespace Sys2Proof.Machine

open Sys2Proof

/-- A byte that is 0 or 1. -/
def parseFlag (b : Byte) : Option Bool := if b = 0 then some false else if b = 1 then some true else none

/-- The lane use field: at least one lane enabled and no other bit set (R165). -/
def parseLaneUse (b : Byte) : Option (PerLane Bool) :=
  if b &&& 0xFC#8 = 0 ∧ b ≠ 0 then some ⟨b.getLsbD 0, b.getLsbD 1⟩ else none

/-- The event enable mask: bits 15..14 clear (R165, R193). -/
def parseMask (hi lo : Byte) : Option (BitVec 14) :=
  if hi &&& 0xC0#8 = 0 then some ((join16 hi lo).setWidth 14) else none

/-- A head's zone, 0..31 or 0xFF for none (R145). -/
def parseHeadZone (b : Byte) : Option (Option Zone) :=
  if b = 0xFF#8 then some none else (below 32 b).map some

/-- A head record: zone and channel mask (R145). -/
def parseHead (zone mask : Byte) : Option HeadConfig := do
  let z ← parseHeadZone zone
  if mask &&& 0xF8#8 = 0 then some { zone := z, red := mask.getLsbD 0, green := mask.getLsbD 1, blue := mask.getLsbD 2 } else none

/-- The action of a switch kind code 3..6 (R193). -/
def parseAction (kind : Byte) : Option ActionKind :=
  if kind = 3 then some .off else if kind = 4 then some .toggle else if kind = 5 then some .raise
  else if kind = 6 then some .lower else none

/-- A switch input's kind with its zone and step; the step is checked for RAISE and LOWER alone (R133). -/
def parseSwitch (kind argument step : Byte) : Option InputKind := do
  let action ← parseAction kind
  let zone ← below 32 argument
  match action with
  | .off => some (.action action zone step.toNat)
  | .toggle => some (.action action zone step.toNat)
  | .raise => if 1 ≤ step.toNat ∧ step.toNat ≤ 64 then some (.action action zone step.toNat) else none
  | .lower => if 1 ≤ step.toNat ∧ step.toNat ≤ 64 then some (.action action zone step.toNat) else none

/-- The kind of a used input. -/
def parseInputKind (kind argument step : Byte) : Option InputKind :=
  if kind = 1 then (below 32 argument).map .sensor
  else if kind = 2 then (below 16 argument).map .recall
  else parseSwitch kind argument step

/-- An input record; one of kind UNUSED is not checked further (R133). -/
def parseInput (kind argument step options : Byte) : Option InputConfig :=
  if kind = 0 then some InputConfig.unused
  else do
    let k ← parseInputKind kind argument step
    if options &&& 0xF8#8 = 0 then
      some { kind := k, activeLow := options.getLsbD 0, debounce := ⟨options.toNat / 2 % 4, Nat.mod_lt _ (by decide)⟩ }
    else none

/-- The occupancy fields of a zone (R118). -/
def parseOccupancy (enable grace vacant percent fade : Byte) : Option OccupancyConfig := do
  let e ← parseFlag enable
  let g ← below 16 grace
  let v ← below 16 vacant
  let f ← below 16 fade
  if percent.toNat ≤ 100 then some { enable := e, grace := g, vacant := v, percent := percent.toNat, fade := f } else none

/-- The default setting of a zone (R3, R165). -/
def parseDefault (switchFade level r g b : Byte) : Option ZoneDefault :=
  (below 16 switchFade).map fun f => { colour := ⟨r, g, b⟩, level := level, switchFade := f }

/-- A look's directory entry: start 0..239, count 0..32, the two together at most 240 (R17). -/
def parseLook (start count : Byte) : Option LookRange :=
  if start.toNat ≤ 239 ∧ count.toNat ≤ 32 ∧ start.toNat + count.toNat ≤ 240 then some { start := start.toNat, count := count.toNat } else none

/-- A pool setting: zone at most 31, fade code at most 15 (R17). -/
def parsePool (zone level r g b fade : Byte) : Option PoolSetting := do
  let z ← below 32 zone
  let f ← below 16 fade
  return { zone := z, colour := ⟨r, g, b⟩, level := level, fade := f }

/-- The zones of one directory entry's range, in pool order. -/
def rangeZones (pool : Vector PoolSetting 240) (range : LookRange) : List Zone :=
  ((pool.toList.drop range.start).take range.count).map fun p => p.zone

/-- No look lists the same zone twice (R17). -/
def looksDistinct (lib : LookLibrary) : Bool :=
  lib.directory.toList.all fun range => decide (rangeZones lib.pool range).Nodup

/-- The byte at an address with an index and a stride. -/
def byteAt (m : Memory) (base stride i : Nat) : Byte := Memory.read m (base + stride * i)

/-- The Look Library (R16, R17, R193). -/
def readLibrary (m : Memory) : Option LookLibrary := do
  let directory ← collect 16 { start := 0, count := 0 } fun k => parseLook (byteAt m 0x181 2 k.val) (byteAt m 0x182 2 k.val)
  let pool ← collect 240 { zone := 0, colour := ⟨0, 0, 0⟩, level := 0, fade := 0 } fun k =>
    parsePool (byteAt m 0x1A1 6 k.val) (byteAt m 0x1A2 6 k.val) (byteAt m 0x1A3 6 k.val) (byteAt m 0x1A4 6 k.val)
      (byteAt m 0x1A5 6 k.val) (byteAt m 0x1A6 6 k.val)
  if looksDistinct { directory := directory, pool := pool } then some { directory := directory, pool := pool } else none

/-- Every field in range (R165, test 3), with what it gives the blocks (R166, R193). -/
def readConfiguration (m : Memory) : Option Configuration := do
  let station ← below 32 (Memory.read m 0x002)
  let laneUse ← parseLaneUse (Memory.read m 0x003)
  let rate ← below 4 (Memory.read m 0x004)
  let mask ← parseMask (Memory.read m 0x005) (Memory.read m 0x006)
  let heads ← collect 4 HeadConfig.none fun h => parseHead (byteAt m 0x007 2 h.val) (byteAt m 0x008 2 h.val)
  let inputs ← collect 8 InputConfig.unused fun i =>
    parseInput (byteAt m 0x00F 4 i.val) (byteAt m 0x010 4 i.val) (byteAt m 0x011 4 i.val) (byteAt m 0x012 4 i.val)
  let presence ← below 4 (Memory.read m 0x040)
  let occupancy ← collect 32 OccupancyConfig.zero fun z =>
    parseOccupancy (byteAt m 0x041 10 z.val) (byteAt m 0x042 10 z.val) (byteAt m 0x043 10 z.val) (byteAt m 0x044 10 z.val) (byteAt m 0x045 10 z.val)
  let defaults ← collect 32 ZoneDefault.zero fun z =>
    parseDefault (byteAt m 0x046 10 z.val) (byteAt m 0x047 10 z.val) (byteAt m 0x048 10 z.val) (byteAt m 0x049 10 z.val) (byteAt m 0x04A 10 z.val)
  let library ← readLibrary m
  return { station := station, laneUse := laneUse, rate := rate, mask := mask, heads := heads, inputs := inputs, presence := presence,
           defaults := defaults, occupancy := occupancy, library := library, checksum := join16 (Memory.read m 0x741) (Memory.read m 0x742) }

/-- The tests of R165 in order; the first to fail gives the detail. -/
def validate (m : Memory) : Validation :=
  if join16 (Memory.read m 0x03E) (Memory.read m 0x03F) ≠ crc16 (Memory.slice m 0x002 60) then .invalid .node
  else if join16 (Memory.read m 0x741) (Memory.read m 0x742) ≠ crc16 (Memory.slice m 0x040 1793) then .invalid .library
  else
    match readConfiguration m with
    | none => .invalid .field
    | some c => .valid c

end Sys2Proof.Machine
end

