-- ==== Sys2Proof/Machine/Startup.lean ====
section
/-! DEFINITION. Resets, LOADING, and the entries of COMMISSION and LISTEN (R45, R159 to R169, R191). -/

namespace Sys2Proof.Machine

open Sys2Proof

/-! ## Supply and lines -/

/-- POWER_ON (R162): every block takes its reset state with kind POWER_ON, and LOADING begins unless the RESET line holds the node. A write still under way was cut off by the loss of supply that must have come before (log 7). With the RESET line asserted the record shows POWER_ON until the line's release, a DESIGN CHOICE (log 32). -/
def execPowerOn (s : State) : Host.Outcome State Fault Refusal :=
  let powered := s.setPins { s.pins with supply := true }
  let base := (resetBlocks .powerOn false (cutOffWrite s.store) powered).setFilter DuplicateFilter.reset
  if s.pins.resetLine then .next base else .next (beginLoading base)

/-- LOSS_OF_SUPPLY (R162, R191): a byte write under way is cut off, and nothing else is kept until power-on (log 20). -/
def execLossOfSupply (s : State) : Host.Outcome State Fault Refusal :=
  let dead := s.setPins { s.pins with supply := false }
  .next ((resetBlocks .powerOn false (cutOffWrite s.store) dead).setFilter DuplicateFilter.reset)

/-- RESET_LINE_ASSERT (R162, R191): the node is held at reset values, an open transaction is discarded, and a byte write under way is cut off and recorded. A line already asserted is not asserted again (log 24). -/
def execResetLineAssert (s : State) : Host.Outcome State Fault Refusal :=
  if s.pins.resetLine then .next s
  else
    let asserted := s.setPins { s.pins with resetLine := true }
    if s.pins.supply then .next (resetBlocks .resetLine s.store.isWriting (cutOffWrite s.store) asserted) else .next asserted

/-- RESET_LINE_RELEASE (R162): the node enters LOADING with kind RESET_LINE and samples SETUP, after a power-on under the asserted line too (log 32). -/
def execResetLineRelease (s : State) : Host.Outcome State Fault Refusal :=
  if s.pins.resetLine then
    let released := s.setPins { s.pins with resetLine := false }
    if s.pins.supply then
      .next (beginLoading (released.setNode { released.node with cause := { released.node.cause with kind := .resetLine } }))
    else .next released
  else .next s

/-- SETUP_LINE_CHANGE (R162, R172): the level is sampled at the next start of LOADING and has no other effect. -/
def execSetupLineChange (high : Bool) (s : State) : Host.Outcome State Fault Refusal :=
  .next (s.setPins { s.pins with setupLine := high })

/-- The reset of an accepted RESTART, taken when its transaction ends (R163). -/
def takeRestart (s : State) : State := beginLoading (resetBlocks .restart false s.store.array s)

/-! ## Phase entries -/

/-- The lane state at the entry of COMMISSION or LISTEN (R45). -/
def laneAtEntry (enabled fault : Bool) (lane : LaneInterface) : LaneInterface :=
  if enabled then { lane with state := if fault then .down else .up } else lane

/-- Both lanes at the entry of COMMISSION or LISTEN, without LANE_UP or LANE_DOWN (R45). -/
def enterLanes (use : PerLane Bool) (s : State) : State :=
  s.setLanes ⟨laneAtEntry use.a s.pins.faultLines.a s.lanes.a, laneAtEntry use.b s.pins.faultLines.b s.lanes.b⟩

/-- The entry of COMMISSION (R155, R167). -/
def enterCommission (use : PerLane Bool) (s : State) : State :=
  let entered := startPresenceTimer (enterLanes use (s.setNode { s.node with phase := .commission }))
  entered.setHeads (commissionLight entered.heads)

/-- The entry of LISTEN (R121, R135, R156, R169). -/
def enterListen (use : PerLane Bool) (s : State) : State :=
  let entered := startPresenceTimer (enterLanes use (s.setNode { s.node with phase := .listen, listenExpiries := 0 }))
  recomputeWhere (fun _ => true) 3 (senseInputs (occupyEnabled entered))

/-! ## LOADING -/

/-- What a valid configuration hands to the blocks (R166). -/
def handConfiguration (c : Configuration) (s : State) : State :=
  { s with
    node := { s.node with
      station := some c.station, loading := .ended,
      cause := { s.node.cause with configValid := true, reason := if s.node.setupSample then .setupLine else .none } }
    zoneStore := { s.zoneStore with defaults := c.defaults, library := some c.library, checksum := some c.checksum }
    presence := { s.presence with
      peers := update s.presence.peers c.station { s.presence.peers[c.station] with state := .self }, interval := presenceTime c.presence }
    occupancy := { s.occupancy with config := c.occupancy }
    inputs := { s.inputs with config := c.inputs }
    heads := { s.heads with
      config := c.heads, rate := c.rate, fadeTick := .running fadeTickTime, period := .running (periodTime c.rate) }
    events := { s.events with mask := c.mask } }

/-- What an invalid configuration hands to the blocks (R166, R168). -/
def handInvalid (s : State) : State :=
  { s with
    node := { s.node with
      station := none, loading := .ended, cause := { s.node.cause with configValid := false, reason := .configInvalid } }
    zoneStore := { s.zoneStore with defaults := Vector.replicate 32 ZoneDefault.zero, library := none, checksum := none }
    presence := { s.presence with interval := presenceTimeInvalid }
    occupancy := { s.occupancy with config := Vector.replicate 32 OccupancyConfig.zero }
    inputs := { s.inputs with config := Vector.replicate 8 InputConfig.unused }
    heads := { s.heads with
      config := Vector.replicate 4 HeadConfig.none, rate := 2, fadeTick := .running fadeTickTime, period := .running (periodTime 2) }
    events := { s.events with mask := BitVec.allOnes 14 } }

/-- The end of LOADING (R159, R166). -/
def endLoading (found : Validation) (s : State) : State :=
  match found with
  | .valid c =>
    let handed := handConfiguration c s
    if s.node.setupSample then enterCommission c.laneUse handed else enterListen c.laneUse handed
  | .invalid d => enterCommission ⟨true, true⟩ (raise (.configInvalid d) (handInvalid s))

/-- LOADING_READ_DONE (R164, R165): the store is validated, the start counter advanced, and its high byte's write begun. -/
def execLoadingReadDone (s : State) : Host.Outcome State Fault Refusal :=
  if s.node.phase = .loading ∧ s.node.loading = .reading then
    let m := s.store.array
    let counter := join16 (Memory.read m 0x000) (Memory.read m 0x001) + 1
    let node := { s.node with startCounter := counter, startTag := counter.extractLsb' 0 8, loading := .checked (validate m) }
    .next ((s.setNode node).setStore { s.store with write := .writing 0 (counter.extractLsb' 8 8) writeTime })
  else .next s

/-- START_COUNTER_WRITE_DONE (R164): the byte takes its value; after the byte at 0x000 the byte at 0x001 is written, and after that LOADING ends. The pointer and the direction indicator stay. A write ends once all of its time has passed (log 3). -/
def execStartCounterWriteDone (s : State) : Host.Outcome State Fault Refusal :=
  match s.node.loading, s.store.write with
  | .checked found, .writing a v _ =>
    let ended := endOfWrite s
    let array := Memory.write ended.store.array a v
    if a = 0 then
      .next (ended.setStore { ended.store with array := array, write := .writing 1 (ended.node.startCounter.extractLsb' 0 8) writeTime })
    else .next (endLoading found (ended.setStore { ended.store with array := array, write := .idle }))
  | _, _ => .next s

end Sys2Proof.Machine
end

