-- ==== Sys2Proof/WellFormed.lean ====
section
/-! DEFINITION. Which commands are well formed. Every operand but one is in range by its type; the one check is on BAD_REQUEST's code byte. -/

namespace Sys2Proof

/-- The fourteen request codes of R185. -/
def requestCodes : List Byte :=
  [0x01#8, 0x02#8, 0x10#8, 0x11#8, 0x12#8, 0x20#8, 0x22#8, 0x23#8, 0x30#8, 0x31#8, 0x40#8, 0x41#8, 0x42#8, 0x7F#8]

/-- A BAD_REQUEST carries a code that is none of the fourteen (R184, test 1); every other command is well formed. -/
def Instr.wellFormed : Instr → Bool
  | .badRequest code => !requestCodes.contains code
  | .powerOn | .resetLineAssert | .resetLineRelease | .loadingReadDone | .startCounterWriteDone => true
  | .frameReceived _ _ | .copyStart _ | .contestLost _ | .laneFaultAssert _ | .laneFaultClear _ => true
  | .presenceExpiry | .catchUpWindowExpiry | .backoffExpiry | .graceExpiry _ | .vacantExpiry _ => true
  | .inputLevelChange _ _ | .debounceExpiry _ | .repeatExpiry _ | .refreshExpiry _ => true
  | .fadeTick | .pwmPeriodStart | .status | .nextEvent => true
  | .publishSet _ _ _ _ _ _ | .publishRecall _ _ | .publishOccupy _ => true
  | .readZone _ | .readPeer _ | .readHead _ | .capture | .readCounter _ _ => true
  | .configPoint _ | .configRead _ | .configWrite _ | .configWriteDone | .restart => true
  | .chipSelectRelease | .lossOfSupply | .chipSelectAssert | .copyEndNothingTakenBack _ | .setupLineChange _ => true

end Sys2Proof
end

