-- ==== Sys2Proof/Machine/Port.lean ====
section
/-! DEFINITION. The Local Port: transactions, screening, the fourteen requests and their result bytes (R183 to R190, R194). -/

namespace Sys2Proof.Machine

open Sys2Proof

/-! ## Serving a request -/

/-- The byte of a result code (R194). -/
def ResultCode.byte : ResultCode → Byte
  | .ok => 0
  | .held => 1
  | .busy => 2
  | .refusedPhase => 3
  | .badArgument => 4
  | .muted => 5
  | .clockExhausted => 6
  | .lookUndefined => 7
  | .heldFull => 8
  | .badRequest => 9
  | .notSent => 10
  | .dropped => 11

/-- A request served: the state, the result code and bytes, and whether it was a RESTART accepted. -/
structure Served where
  state : State
  result : List Byte
  restarting : Bool

/-- A request answered OK with result bytes. -/
def okWith (s : State) (bytes : List Byte) : Served := { state := s, result := ResultCode.ok.byte :: bytes, restarting := false }

/-- A request refused with a result code and no further effect (R184). -/
def refuse (s : State) (code : ResultCode) : Served := { state := s, result := [code.byte], restarting := false }

/-- The result of a publication (R186). -/
def answered (a : Answer) : Served := { state := a.state, result := [a.result.byte], restarting := false }

/-- Which of R184's tests bear on a request. -/
structure Screening where
  /-- The request is STATUS, served in LOADING too (test 2). -/
  isStatus : Bool
  /-- The request is CONFIG_WRITE, served in COMMISSION alone (test 3). -/
  isWrite : Bool
  /-- The request is refused while a byte write is under way (test 5). -/
  needsIdle : Bool

/-- A request with no test of its own but the phase and its arguments. -/
def plainRequest : Screening := { isStatus := false, isWrite := false, needsIdle := false }

/-- A request that needs the write state IDLE. -/
def storeRequest : Screening := { isStatus := false, isWrite := false, needsIdle := true }

/-- Tests 2 to 5 of R184 in order, then the request itself. `none` is an argument out of range. -/
def screen {α : Type} (which : Screening) (arg : Option α) (act : α → State → Served) (s : State) : Served :=
  if s.node.phase = .loading ∧ which.isStatus = false then refuse s .refusedPhase
  else if which.isWrite ∧ s.node.phase ≠ .commission then refuse s .refusedPhase
  else
    match arg with
    | none => refuse s .badArgument
    | some x => if which.needsIdle ∧ s.store.isWriting then refuse s .busy else act x s

/-- A request takes effect in the open transaction; with none open, or once one has taken effect, its bytes are not taken (R183; log 8). -/
def serve {α : Type} (which : Screening) (arg : Option α) (act : α → State → Served) (s : State) : Host.Outcome State Fault Refusal :=
  match s.port with
  | .opened =>
    let served := screen which arg act s
    .next (served.state.setPort (.answered served.result served.restarting))
  | .closed => .next s
  | .answered _ _ => .next s

/-! ## Transactions -/

/-- CHIP_SELECT_ASSERT (R162, R183): a transaction opens, unless the node is held at reset. -/
def execChipSelectAssert (s : State) : Host.Outcome State Fault Refusal :=
  if s.port = .closed ∧ s.node.loading ≠ .held then .next (s.setPort .opened) else .next s

/-- CHIP_SELECT_RELEASE (R163, R183): the transaction ends; an accepted RESTART is taken now. -/
def execChipSelectRelease (s : State) : Host.Outcome State Fault Refusal :=
  match s.port with
  | .answered _ true => .next (takeRestart s)
  | .answered _ false => .next (s.setPort .closed)
  | .opened => .next (s.setPort .closed)
  | .closed => .next s

/-- BAD_REQUEST (R184, test 1): answered at its code byte, in every phase. A code that is one of the fourteen is no such event (log 23). -/
def execBadRequest (code : Byte) (s : State) : Host.Outcome State Fault Refusal :=
  if s.port = .opened ∧ requestCodes.contains code = false then .next (s.setPort (.answered [ResultCode.badRequest.byte] false))
  else .next s

/-! ## Result bytes -/

/-- STATUS byte 0. -/
def Phase.code : Phase → Byte
  | .loading => 0
  | .commission => 1
  | .listen => 2
  | .catchUp => 3
  | .running => 4
  | .mute => 5

/-- STATUS byte 1, bits 1..0. -/
def ResetKind.code : ResetKind → Byte
  | .powerOn => 0
  | .resetLine => 1
  | .restart => 2

/-- STATUS byte 1, bits 5..4, as a byte. -/
def CommissionReason.code : CommissionReason → Byte
  | .none => 0x00#8
  | .setupLine => 0x10#8
  | .configInvalid => 0x20#8

/-- A station, 0xFF for none (R194). -/
def stationByte (n : Option Station) : Byte :=
  match n with
  | none => 0xFF#8
  | some n => byteOf n.val

/-- A lane state in two bits. -/
def LaneState.code : LaneState → Nat
  | .disabled => 0
  | .up => 1
  | .down => 2

/-- The direction indicator's byte. -/
def Direction.code : Direction → Byte
  | .none => 0
  | .read => 1
  | .write => 2

/-- The reset cause byte of STATUS. -/
def causeByte (c : ResetCause) : Byte := c.kind.code ||| bitAt 2 c.interruptedWrite ||| bitAt 3 c.configValid ||| c.reason.code

/-- The fifteen bytes of STATUS (R187, R194). -/
def statusBytes (s : State) : List Byte :=
  [s.node.phase.code, causeByte s.node.cause, stationByte s.node.cause.conflict, stationByte s.node.station,
   byteOf (s.lanes.a.state.code + 4 * s.lanes.b.state.code),
   bitAt 0 (isolated s) ||| bitAt 1 s.catchUp.incomplete ||| bitAt 2 s.zoneStore.exhausted ||| bitAt 3 (configBusy s) ||| bitAt 4 (attn s)] ++
    split32 s.zoneStore.clock ++ split16 s.node.startCounter ++ word16Of s.store.pointer ++ [s.store.direction.code]

/-- CONFIG_INVALID's detail. -/
def ConfigDetail.code : ConfigDetail → Byte
  | .node => 1
  | .library => 2
  | .field => 3

/-- CATCH_UP_DONE's detail. -/
def Completion.code : Completion → Byte
  | .complete => 1
  | .incomplete => 2

/-- A detail of one value in byte 4. -/
def lastByte (b : Byte) : List Byte := [0, 0, 0, b]

/-- A lane set in byte 4: bit 0 A, bit 1 B. -/
def laneSetBytes (l : LaneSet) : List Byte := lastByte (bitAt 0 l.a ||| bitAt 1 l.b)

/-- The five bytes of NEXT_EVENT for an event: kind as its priority, then the detail (R194). -/
def eventBytes : Event → List Byte
  | .stationConflict n => 0 :: lastByte (byteOf n.val)
  | .configInvalid d => 1 :: lastByte d.code
  | .laneDown l => 2 :: laneSetBytes l
  | .laneUp l => 3 :: laneSetBytes l
  | .peerLost t => 4 :: split32 t
  | .peerJoined t => 5 :: split32 t
  | .peerRestart t => 6 :: split32 t
  | .libraryMismatch t => 7 :: split32 t
  | .txDrop n => 8 :: lastByte n
  | .catchUpDone c => 9 :: lastByte c.code
  | .zoneChanged z => 10 :: split32 z
  | .occupancyChanged z => 11 :: split32 z
  | .counterSaturated i => 12 :: lastByte (byteOf i.val)
  | .configWriteDone a => 13 :: 0 :: 0 :: word16Of a.val

/-- Every pending kind with its detail, in the order of the priorities; `none` where the kind is not pending (R178). -/
def EventRecords.inOrder (r : EventRecords) : List (Option Event) :=
  [r.stationConflict.map .stationConflict, r.configInvalid.map .configInvalid, r.laneDown.map .laneDown, r.laneUp.map .laneUp,
   r.peerLost.map .peerLost, r.peerJoined.map .peerJoined, r.peerRestart.map .peerRestart,
   r.libraryMismatch.map .libraryMismatch, r.txDrop.map .txDrop, r.catchUpDone.map .catchUpDone,
   r.zoneChanged.map .zoneChanged, r.occupancyChanged.map .occupancyChanged,
   r.counterSaturated.map .counterSaturated, r.configWriteDone.map .configWriteDone]

/-- The pending kind of highest priority with its detail (R181). -/
def firstEvent (r : EventRecords) : Option Event := r.inOrder.findSome? fun e => e

/-- The record of an event's kind cleared (R181). -/
def EventRecords.cleared (r : EventRecords) : Event → EventRecords
  | .stationConflict _ => { r with stationConflict := none }
  | .configInvalid _ => { r with configInvalid := none }
  | .laneDown _ => { r with laneDown := none }
  | .laneUp _ => { r with laneUp := none }
  | .peerLost _ => { r with peerLost := none }
  | .peerJoined _ => { r with peerJoined := none }
  | .peerRestart _ => { r with peerRestart := none }
  | .libraryMismatch _ => { r with libraryMismatch := none }
  | .txDrop _ => { r with txDrop := none }
  | .catchUpDone _ => { r with catchUpDone := none }
  | .zoneChanged _ => { r with zoneChanged := none }
  | .occupancyChanged _ => { r with occupancyChanged := none }
  | .counterSaturated _ => { r with counterSaturated := none }
  | .configWriteDone _ => { r with configWriteDone := none }

/-- The twelve bytes of a zone entry; an EMPTY one's absent fields are 0 with the source SET (R1, R194). -/
def entryBytes (e : Option Setting) : List Byte :=
  match e with
  | none => [0, 0, 0, 0, 0, 0, 0, 0, 0, 0, 0, 0xFF#8]
  | some x =>
    [1, x.colour.r, x.colour.g, x.colour.b, x.level, byteOf x.fade.val] ++ split32 x.stamp ++ [byteOf x.origin.val, x.source.code]

/-- READ_ZONE byte 17. -/
def OccupancyState.code : OccupancyState → Byte
  | .follow => 0
  | .occupied => 1
  | .vacant => 2
  | .dark => 3

/-- READ_ZONE byte 20. -/
def WakeCause.code : WakeCause → Byte
  | .start => 0
  | .localSensor => 1
  | .occupyFrame => 2
  | .switch => 3
  | .port => 4

/-- A timer in whole units of 0.1 s, truncated, 0 when stopped (R131). -/
def tenths (t : Timer) : Nat := t.left / 1000

/-- The twenty-one bytes of READ_ZONE (R23, R131, R194). -/
def zoneBytes (zone : Zone) (s : State) : List Byte :=
  let shown := effective s.zoneStore zone
  let r := s.occupancy.records[zone]
  entryBytes s.zoneStore.table[zone] ++ [shown.colour.r, shown.colour.g, shown.colour.b, shown.level, byteOf shown.fade.val, r.state.code] ++
    word16Of (tenths r.timer) ++ [r.cause.code]

/-- READ_PEER byte 0. -/
def PeerState.code : PeerState → Byte
  | .absent => 0
  | .present => 1
  | .silent => 2
  | .lost => 3
  | .self => 4

/-- The announced phase, 0 when none (R80). -/
def announcedCode (p : Option AnnouncedPhase) : Byte :=
  match p with
  | none => 0
  | some p => p.code

/-- The twenty-three bytes of READ_PEER (R61, R80, R194). -/
def peerBytes (r : PeerRecord) (e : OriginEntry) : List Byte :=
  [r.state.code, byteOf r.sinceHeard,
   byteOf (r.sinceLane.a + 4 * r.sinceLane.b) ||| bitAt 4 (laneHeard .A r) ||| bitAt 5 (laneHeard .B r)] ++
    split16 r.checksum ++
    [announcedCode r.phase, bitAt 0 r.incomplete ||| bitAt 1 r.singleLane ||| bitAt 2 r.mismatch ||| bitAt 3 r.crossed] ++
    split32 r.clock ++ [bitAt 0 e.active, e.startTag] ++ split16 e.highest ++ split32 (e.window.setWidth 32) ++
    [bitAt 0 e.lanesSeen.a ||| bitAt 1 e.lanesSeen.b, e.worstSkew, e.laneMiss.a, e.laneMiss.b]

/-- The six bytes of one channel record (R157, R194). -/
def channelBytes (c : ChannelRecord) : List Byte := word16Of c.current ++ word16Of c.target ++ word16Of c.remaining

/-- The red, green or blue channel of a head (R145). -/
def channelOf (h : Head) (colour : Fin 3) : Channel := ⟨3 * h.val + colour.val, by omega⟩

/-- The eighteen bytes of READ_HEAD (R157, R194). -/
def headBytes (h : Head) (s : State) : List Byte :=
  channelBytes s.heads.channels[channelOf h 0] ++ channelBytes s.heads.channels[channelOf h 1] ++ channelBytes s.heads.channels[channelOf h 2]

/-- The capture values of `count` counters from `first`, in index order (R176). -/
def counterBytes (first count : Nat) (bank : CounterBank) : List Byte :=
  ((bank.capture.toList.drop first).take count).flatMap split32

/-! ## The requests -/

/-- STATUS (R187): served in every phase, changes nothing. -/
def execStatus (s : State) : Host.Outcome State Fault Refusal :=
  serve { isStatus := true, isWrite := false, needsIdle := false } (some ()) (fun _ s => okWith s (statusBytes s)) s

/-- NEXT_EVENT (R181): returns and clears the pending kind of highest priority, or NONE. -/
def execNextEvent (s : State) : Host.Outcome State Fault Refusal :=
  serve plainRequest (some ())
    (fun _ s =>
      match firstEvent s.events.records with
      | none => okWith s (0xFF#8 :: lastByte 0)
      | some e => okWith (s.setEvents { s.events with records := s.events.records.cleared e }) (eventBytes e)) s

/-- PUBLISH_SET (R19, R20, R186). -/
def execPublishSet (zone r g b level options : Byte) (s : State) : Host.Outcome State Fault Refusal :=
  serve plainRequest (setArgs zone r g b level options)
    (fun x s => answered (requestByPhase (.set x.1 x.2.1 x.2.2.1 x.2.2.2.1 x.2.2.2.2 .port) s)) s

/-- PUBLISH_RECALL (R19, R21, R186). -/
def execPublishRecall (look options : Byte) (s : State) : Host.Outcome State Fault Refusal :=
  serve plainRequest (recallArgs look options) (fun x s => answered (requestByPhase (.recall x.1 x.2 .port) s)) s

/-- PUBLISH_OCCUPY (R128, R186). -/
def execPublishOccupy (zones : ZoneSet) (s : State) : Host.Outcome State Fault Refusal :=
  serve plainRequest (occupyArg zones) (fun z s => answered (requestOccupy z .port s)) s

/-- READ_ZONE (R23). -/
def execReadZone (zone : Byte) (s : State) : Host.Outcome State Fault Refusal :=
  serve plainRequest (below 32 zone) (fun z s => okWith s (zoneBytes z s)) s

/-- READ_PEER (R61, R80): worst skew is cleared once the fields have been taken. -/
def execReadPeer (station : Byte) (s : State) : Host.Outcome State Fault Refusal :=
  serve plainRequest (below 32 station)
    (fun n s =>
      let e := s.filter.entries[n]
      okWith (s.setFilter { s.filter with entries := update s.filter.entries n { e with worstSkew := 0 } })
        (peerBytes s.presence.peers[n] e)) s

/-- READ_HEAD (R157). -/
def execReadHead (head : Byte) (s : State) : Host.Outcome State Fault Refusal :=
  serve plainRequest (below 4 head) (fun h s => okWith s (headBytes h s)) s

/-- CAPTURE (R175). -/
def execCapture (s : State) : Host.Outcome State Fault Refusal :=
  serve plainRequest (some ())
    (fun _ s => okWith (s.setCounters { live := Vector.replicate 28 0, capture := s.counters.live, latch := false }) []) s

/-- READ_COUNTER (R176). -/
def execReadCounter (first count : Byte) (s : State) : Host.Outcome State Fault Refusal :=
  serve plainRequest (counterArgs first count) (fun x s => okWith s (counterBytes x.1 x.2 s.counters)) s

/-- CONFIG_POINT (R189). -/
def execConfigPoint (address : Word16) (s : State) : Host.Outcome State Fault Refusal :=
  serve storeRequest (pointArg address)
    (fun a s => okWith (s.setStore { s.store with pointer := a, direction := .none }) []) s

/-- CONFIG_READ (R189). -/
def execConfigRead (count : Byte) (s : State) : Host.Outcome State Fault Refusal :=
  serve storeRequest (readArg s.store.pointer count)
    (fun n s => okWith (s.setStore { s.store with pointer := s.store.pointer + n, direction := .read })
      (Memory.slice s.store.array s.store.pointer n)) s

/-- CONFIG_WRITE (R190): the byte write begins; the pointer stays until it completes. -/
def execConfigWrite (value : Byte) (s : State) : Host.Outcome State Fault Refusal :=
  serve { isStatus := false, isWrite := true, needsIdle := true } (writeArg s.store.pointer)
    (fun a s => okWith (s.setStore { s.store with direction := .write, write := .writing a value writeTime }) []) s

/-- RESTART (R163): accepted, to be taken when the transaction ends. -/
def execRestart (s : State) : Host.Outcome State Fault Refusal :=
  serve storeRequest (some ()) (fun _ s => { okWith s [] with restarting := true }) s

/-- CONFIG_WRITE_DONE (R190): the byte takes its value, the write state returns to IDLE, the pointer advances and CONFIG_WRITE_DONE is raised. The start counter writes of LOADING complete by their own command. A write ends once all of its time has passed (log 3). -/
def execConfigWriteDone (s : State) : Host.Outcome State Fault Refusal :=
  match s.node.phase, s.store.write with
  | .loading, _ => .next s
  | _, .idle => .next s
  | _, .writing a v _ =>
    let ended := endOfWrite s
    .next (raise (.configWriteDone a) (ended.setStore { ended.store with
      array := Memory.write ended.store.array a v, write := .idle, pointer := min Config.storeBytes (ended.store.pointer + 1) }))

end Sys2Proof.Machine
end

