-- ==== Sys2Proof/Machine/Filter.lean ====
section
/-! DEFINITION. The Duplicate Filter's judgement of one frame by one entry (R49 to R58). -/

namespace Sys2Proof.Machine

open Sys2Proof

/-- What the filter decides of a frame (R50). -/
inductive Verdict
  | accepted
  /-- Accepted, and a restart of its origin (R52). -/
  | restarted
  | duplicate
  | stale
  deriving DecidableEq, Repr

/-- The entry filled from a frame; worst skew and the lane miss counts keep their values (R51, R52). -/
def openEntry (L : Lane) (f : Frame) (now : Word32) (e : OriginEntry) : OriginEntry :=
  { e with active := true, startTag := f.startTag, highest := f.sequence, window := 0, lanesSeen := oneLane L, firstCopy := now }

/-- One more, stopping at 255. -/
def saturate255 (b : Byte) : Byte := if b = 255 then 255 else b + 1

/-- The lane miss rule on the old highest: seen on one lane only, the other being UP here (R56). -/
def countMiss (up : PerLane Bool) (e : OriginEntry) : PerLane Byte :=
  match e.lanesSeen.a, e.lanesSeen.b with
  | true, false => if up.b then { e.laneMiss with b := saturate255 e.laneMiss.b } else e.laneMiss
  | false, true => if up.a then { e.laneMiss with a := saturate255 e.laneMiss.a } else e.laneMiss
  | true, true => e.laneMiss
  | false, false => e.laneMiss

/-- The window moved by `d` places, with the old highest's mark at position `d` (R55). -/
def moveWindow (w : BitVec 31) (d : Nat) : BitVec 31 :=
  (w <<< d) ||| (if d ≤ 31 then BitVec.ofNat 31 (2 ^ (d - 1)) else 0)

/-- The entry advanced by a frame `d` places after the highest (R55, R56). -/
def advanceEntry (L : Lane) (f : Frame) (now : Word32) (up : PerLane Bool) (d : Nat) (e : OriginEntry) : OriginEntry :=
  { e with window := moveWindow e.window d, highest := f.sequence, lanesSeen := oneLane L, firstCopy := now, laneMiss := countMiss up e }

/-- The skew measured by the first copy of the highest sequence on the second lane (R54). -/
def measureSkew (L : Lane) (now : Word32) (e : OriginEntry) : OriginEntry :=
  if e.lanesSeen.get L then e
  else
    let skew := min 255 (now - e.firstCopy).toNat
    { e with lanesSeen := e.lanesSeen.put L true, worstSkew := byteOf (max e.worstSkew.toNat skew) }

/-- The first rule of R50's table whose condition holds: the verdict and the entry after it. -/
def judge (L : Lane) (f : Frame) (now : Word32) (up : PerLane Bool) (e : OriginEntry) : Verdict × OriginEntry :=
  let t := (f.startTag - e.startTag).toNat
  let d := (f.sequence - e.highest).toNat
  let k := (e.highest - f.sequence).toNat
  if e.active = false then (.accepted, openEntry L f now e)
  else if 1 ≤ t ∧ t ≤ 127 then (.restarted, openEntry L f now e)
  else if 128 ≤ t then (.stale, e)
  else if d = 0 then (.duplicate, measureSkew L now e)
  else if d ≤ 32767 then (.accepted, advanceEntry L f now up d e)
  else if k ≤ 31 then
    if e.window.getLsbD (k - 1) then (.duplicate, e)
    else (.accepted, { e with window := e.window ||| BitVec.ofNat 31 (2 ^ (k - 1)) })
  else (.stale, e)

end Sys2Proof.Machine
end

