-- ==== Sys2Proof/Machine/Receive.lean ====
section
/-! DEFINITION. The receive path: station conflicts, the handlers of the six kinds, and FRAME_RECEIVED (R10 to R15, R34 to R40, R59, R60, R170). -/

namespace Sys2Proof.Machine

open Sys2Proof

/-! ## Station conflicts -/

/-- The entry of MUTE: the queue is flushed, the Held List, pending answer set, back-off timer and window are cleared, an asker not FINISHED returns to IDLE, and the conflict is recorded and raised (R39, R95, R115, R170). -/
def enterMute (own : Station) (s : State) : State :=
  let muted := s.setNode { s.node with phase := .mute, cause := { s.node.cause with conflict := some own } }
  let flushed := muted.setTx { muted.tx with records := [] }
  let cleared := flushed.setCatchUp { flushed.catchUp with
    asker := if flushed.catchUp.asker = .finished then .finished else .idle
    retry := false, window := .stopped, answers := 0, backoff := .stopped, held := [] }
  raise (.stationConflict own) cleared

/-- A station conflict, by phase (R39). -/
def stationConflict (own : Station) (s : State) : State :=
  match s.node.phase with
  | .loading => s
  | .commission => raise (.stationConflict own) s
  | .listen => enterMute own s
  | .catchUp => enterMute own s
  | .running => enterMute own s
  | .mute => raise (.stationConflict own) s

/-! ## Handlers of accepted frames -/

/-- An accepted SET (R10, R11). The spec leaves open whether the merge or the wake is taken first (R11, R120, R149): the model merges first, a DESIGN CHOICE (log 29). -/
def acceptSet (f : Frame) (zone : Zone) (colour : Colour) (level : Byte) (fade : FadeCode) (waking : Bool) (s : State) : State :=
  let merged := merge zone
    { colour := colour, level := level, fade := fade, stamp := f.stamp, origin := f.origin, source := .set } s
  if waking then wake .occupyFrame zone merged else merged

/-- An accepted RECALL: refused and counted where the checksums differ or this node has none, else applied from the own library (R12 to R14). With wake, every setting is merged before the first zone is woken, a DESIGN CHOICE (log 29). -/
def acceptRecall (f : Frame) (look : Look) (checksum : Word16) (waking : Bool) (s : State) : State :=
  if s.zoneStore.checksum = some checksum then
    let merged := mergeLook look f.stamp f.origin s
    if waking then wakeAll .occupyFrame (lookZones s.zoneStore look) merged else merged
  else countNode .recallRefused s

/-- An accepted SYNC_ENTRY: each entry merged in order, then handed to the responder (R15, R107). -/
def acceptEntries (entries : List SyncEntry) (s : State) : State :=
  strikeAnswers entries (entries.foldl (fun s e => merge e.zone e.setting s) s)

/-- The handler of the frame's kind (R59). -/
def handleFrame (f : Frame) (s : State) : State :=
  match f.payload with
  | .presence checksum phase incomplete singleLane => acceptPresence f.origin f.stamp checksum phase incomplete singleLane s
  | .set zone colour level fade waking => acceptSet f zone colour level fade waking s
  | .recall look checksum waking => acceptRecall f look checksum waking s
  | .occupy zones => wakeSet .occupyFrame zones s
  | .syncAsk wanted => acceptAsk wanted s
  | .syncEntry entries => acceptEntries entries s

/-- An accepted frame: the stamp clock is raised, then the handler acts (R5, R59). -/
def acceptFrame (f : Frame) (s : State) : State := handleFrame f (raiseClock f.stamp s)

/-- Which lanes are UP at this node. -/
def lanesUp (s : State) : PerLane Bool := ⟨s.lanes.a.state == .up, s.lanes.b.state == .up⟩

/-- The Duplicate Filter takes a GOOD frame (R50 to R60). -/
def filterFrame (L : Lane) (f : Frame) (s : State) : State :=
  let judged := judge L f s.filter.timeBase (lanesUp s) s.filter.entries[f.origin]
  let noted := s.setFilter { s.filter with entries := update s.filter.entries f.origin judged.2 }
  match judged.1 with
  | .accepted => acceptFrame f noted
  | .restarted => acceptFrame f (raise (.peerRestart (oneOf f.origin)) (countNode .peerRestart noted))
  | .duplicate => countLane L .rxDuplicate noted
  | .stale => countLane L .rxStale noted

/-- The frame's lane tag names the other lane (R40). -/
def isCrossed (L : Lane) (f : Frame) : Bool := f.laneTag != L

/-- A GOOD frame that is not own: the lane comes UP, a conflict is reported, the frame is counted and passed to the Presence Monitor and the Duplicate Filter (R37, R39, R40, R47). -/
def takeGood (L : Lane) (f : Frame) (s : State) : State :=
  let up := bringLaneUp L s
  let reported := if up.node.station = some f.origin then stationConflict f.origin up else up
  let counted := countLane L .rxGood reported
  let crossed := if isCrossed L f then countLane L .rxCrossed counted else counted
  filterFrame L f (hearPeer L f.origin (isCrossed L f) crossed)

/-- A GOOD frame is own when the lane has a copy in flight and the bytes are that copy's (R38). -/
def isOwn (L : Lane) (bytes : List Byte) (s : State) : Bool :=
  match inFlightOn L s.tx.records, s.node.station with
  | some r, some own => bytes == copyBytes own L r
  | some _, none => false
  | none, _ => false

/-- Whether the receiver of a lane takes frames (R34). -/
def laneReceives (L : Lane) (s : State) : Bool :=
  (s.lanes.get L).state != .disabled && !(s.pins.faultLines.get L)

/-- A frame of a class other than GOOD is counted and goes no further; it is the damaged echo of a copy in flight, if there is one (R35, R43). -/
def takeBad (L : Lane) (c : LaneCounter) (s : State) : State := failAttempt L (countLane L c s)

/-- FRAME_RECEIVED (R34 to R38). -/
def execFrameReceived (L : Lane) (bytes : List Byte) (s : State) : Host.Outcome State Fault Refusal :=
  if laneReceives L s then
    match classify bytes with
    | .runt => .next (takeBad L .rxRunt s)
    | .overlong => .next (takeBad L .rxOverlong s)
    | .crcError => .next (takeBad L .rxCrcError s)
    | .malformed => .next (takeBad L .rxMalformed s)
    | .good f => if isOwn L bytes s then .next (completeCopy L s) else .next (takeGood L f s)
  else .next s

end Sys2Proof.Machine
end

