-- ==== Sys2Proof/Machine/Dispatch.lean ====
section
/-! DEFINITION. exec: one arm for each command, each a direct call of its meaning. -/

namespace Sys2Proof.Machine

open Sys2Proof

def exec (i : Instr) (s : State) : Host.Outcome State Fault Refusal :=
  match i with
  | .powerOn => Sys2Proof.Machine.execPowerOn s
  | .resetLineAssert => Sys2Proof.Machine.execResetLineAssert s
  | .resetLineRelease => Sys2Proof.Machine.execResetLineRelease s
  | .loadingReadDone => Sys2Proof.Machine.execLoadingReadDone s
  | .startCounterWriteDone => Sys2Proof.Machine.execStartCounterWriteDone s
  | .frameReceived lane bytes => Sys2Proof.Machine.execFrameReceived lane bytes s
  | .copyStart lane => Sys2Proof.Machine.execCopyStart lane s
  | .contestLost lane => Sys2Proof.Machine.execContestLost lane s
  | .laneFaultAssert lane => Sys2Proof.Machine.execLaneFaultAssert lane s
  | .laneFaultClear lane => Sys2Proof.Machine.execLaneFaultClear lane s
  | .presenceExpiry => Sys2Proof.Machine.execPresenceExpiry s
  | .catchUpWindowExpiry => Sys2Proof.Machine.execCatchUpWindowExpiry s
  | .backoffExpiry => Sys2Proof.Machine.execBackoffExpiry s
  | .graceExpiry zone => Sys2Proof.Machine.execGraceExpiry zone s
  | .vacantExpiry zone => Sys2Proof.Machine.execVacantExpiry zone s
  | .inputLevelChange line high => Sys2Proof.Machine.execInputLevelChange line high s
  | .debounceExpiry line => Sys2Proof.Machine.execDebounceExpiry line s
  | .repeatExpiry line => Sys2Proof.Machine.execRepeatExpiry line s
  | .refreshExpiry line => Sys2Proof.Machine.execRefreshExpiry line s
  | .fadeTick => Sys2Proof.Machine.execFadeTick s
  | .pwmPeriodStart => Sys2Proof.Machine.execPwmPeriodStart s
  | .status => Sys2Proof.Machine.execStatus s
  | .nextEvent => Sys2Proof.Machine.execNextEvent s
  | .publishSet zone r g b level options => Sys2Proof.Machine.execPublishSet zone r g b level options s
  | .publishRecall look options => Sys2Proof.Machine.execPublishRecall look options s
  | .publishOccupy zones => Sys2Proof.Machine.execPublishOccupy zones s
  | .readZone zone => Sys2Proof.Machine.execReadZone zone s
  | .readPeer station => Sys2Proof.Machine.execReadPeer station s
  | .readHead head => Sys2Proof.Machine.execReadHead head s
  | .capture => Sys2Proof.Machine.execCapture s
  | .readCounter first count => Sys2Proof.Machine.execReadCounter first count s
  | .configPoint address => Sys2Proof.Machine.execConfigPoint address s
  | .configRead count => Sys2Proof.Machine.execConfigRead count s
  | .configWrite value => Sys2Proof.Machine.execConfigWrite value s
  | .configWriteDone => Sys2Proof.Machine.execConfigWriteDone s
  | .restart => Sys2Proof.Machine.execRestart s
  | .badRequest code => Sys2Proof.Machine.execBadRequest code s
  | .chipSelectRelease => Sys2Proof.Machine.execChipSelectRelease s
  | .lossOfSupply => Sys2Proof.Machine.execLossOfSupply s
  | .chipSelectAssert => Sys2Proof.Machine.execChipSelectAssert s
  | .copyEndNothingTakenBack lane => Sys2Proof.Machine.execCopyEndNothingTakenBack lane s
  | .setupLineChange high => Sys2Proof.Machine.execSetupLineChange high s

end Sys2Proof.Machine
end

