-- ==== Sys2Proof/Machine/Step.lean ====
section
/-! DEFINITION. One step: the command at the front of the queue, or 0.1 ms of time when none waits. -/

namespace Sys2Proof.Machine

open Sys2Proof

/-- One step. The command at the front of the queue is taken and run on the state with the queue's rest. On an empty queue 0.1 ms passes (DESIGN CHOICE, log 2). -/
def step (s : State) : Host.Outcome State Fault Refusal :=
  match s.pending with
  | [] => .next (passTime s)
  | c :: rest => exec c (s.setPending rest)

/-- The state with the command that a word spells put at the front of its queue. No word spells one (log 15), so the state is unchanged. -/
def State.withFetchWord (s : State) (nbits w : Nat) : State :=
  match decodeTableWord nbits w with
  | some c => s.setPending (c :: s.pending)
  | none => s

end Sys2Proof.Machine
end

