-- ==== Sys2Proof/Machine/Wire.lean ====
section
/-! DEFINITION. The Local Port byte by byte: the code and argument bytes of each request (R185), and what is shifted in and out of a transaction (R183). -/

namespace Sys2Proof.Machine

open Sys2Proof

/-! ## Requests as bytes -/

/-- The code byte of a request followed by its argument bytes, multi-byte arguments high byte first (R185). A BAD_REQUEST is its code alone (R184); a command that is no request has no bytes. -/
def requestBytes : Instr → List Byte
  | .status => [0x01#8]
  | .nextEvent => [0x02#8]
  | .publishSet zone r g b level options => [0x10#8, zone, r, g, b, level, options]
  | .publishRecall look options => [0x11#8, look, options]
  | .publishOccupy zones => 0x12#8 :: split32 zones
  | .readZone zone => [0x20#8, zone]
  | .readPeer station => [0x22#8, station]
  | .readHead head => [0x23#8, head]
  | .capture => [0x30#8]
  | .readCounter first count => [0x31#8, first, count]
  | .configPoint address => 0x40#8 :: split16 address
  | .configRead count => [0x41#8, count]
  | .configWrite value => [0x42#8, value]
  | .restart => [0x7F#8]
  | .badRequest code => [code]
  | .powerOn | .resetLineAssert | .resetLineRelease | .loadingReadDone | .startCounterWriteDone => []
  | .frameReceived _ _ | .copyStart _ | .contestLost _ | .laneFaultAssert _ | .laneFaultClear _ => []
  | .presenceExpiry | .catchUpWindowExpiry | .backoffExpiry | .graceExpiry _ | .vacantExpiry _ => []
  | .inputLevelChange _ _ | .debounceExpiry _ | .repeatExpiry _ | .refreshExpiry _ => []
  | .fadeTick | .pwmPeriodStart | .configWriteDone => []
  | .chipSelectRelease | .lossOfSupply | .chipSelectAssert | .copyEndNothingTakenBack _ | .setupLineChange _ => []

/-- The request of a defined code once its arguments have arrived; `none` while some are missing. Bytes past the arguments are ignored (R183, R185). -/
def readDefined (code : Byte) (rest : List Byte) : Option Instr :=
  match code.toNat, rest with
  | 0x01, _ => some .status
  | 0x02, _ => some .nextEvent
  | 0x10, zone :: r :: g :: b :: level :: options :: _ => some (.publishSet zone r g b level options)
  | 0x11, look :: options :: _ => some (.publishRecall look options)
  | 0x12, b3 :: b2 :: b1 :: b0 :: _ => some (.publishOccupy (join32 b3 b2 b1 b0))
  | 0x20, zone :: _ => some (.readZone zone)
  | 0x22, station :: _ => some (.readPeer station)
  | 0x23, head :: _ => some (.readHead head)
  | 0x30, _ => some .capture
  | 0x31, first :: count :: _ => some (.readCounter first count)
  | 0x40, hi :: lo :: _ => some (.configPoint (join16 hi lo))
  | 0x41, count :: _ => some (.configRead count)
  | 0x42, value :: _ => some (.configWrite value)
  | 0x7F, _ => some .restart
  | _, _ => none

/-- The request that the bytes of a transaction spell, from its first byte on; a code that is none of the fourteen is a BAD_REQUEST at once (R183, R184). -/
def readRequest : List Byte → Option Instr
  | [] => none
  | code :: rest => if requestCodes.contains code then readDefined code rest else some (.badRequest code)

/-- The bits of a byte in the order in which they are shifted, most significant first (R183). -/
def shiftedBits (b : Byte) : List Bool := (List.range 8).map fun k => b.getLsbD (7 - k)

/-! ## Clocking -/

/-- An open transaction as the controller drives it: the bytes shifted in since chip select was asserted, and the node. -/
structure PortWire where
  shiftedIn : List Byte
  node : State

/-- The byte shifted out next: 0x00 until the request has taken effect, then the result code and the result bytes, then 0x00 (R183). -/
def byteOut (w : PortWire) : Byte :=
  match w.node.port, readRequest w.shiftedIn with
  | .answered result _, some c => result.getD (w.shiftedIn.length - (requestBytes c).length) 0
  | _, _ => 0

/-- The state a command leads to; every command leads to one. -/
def stateAfter (c : Instr) (s : State) : State :=
  match exec c s with
  | .next t => t
  | .fault _ => s
  | .refused _ => s

/-- The node once one more byte has been shifted in: the request takes effect with its last byte, and later bytes are ignored (R183). -/
def nodeAfterByte (shiftedIn : List Byte) (s : State) : State :=
  match s.port, readRequest shiftedIn with
  | .opened, some c => stateAfter c s
  | _, _ => s

/-- One byte is shifted in while one is shifted out (R183). -/
def clockByte (b : Byte) (w : PortWire) : Byte × PortWire :=
  (byteOut w, { shiftedIn := w.shiftedIn ++ [b], node := nodeAfterByte (w.shiftedIn ++ [b]) w.node })

/-- Bytes shifted in one after another: the bytes shifted out, and the transaction as it then stands. -/
def clockBytes : List Byte → PortWire → List Byte × PortWire
  | [], w => ([], w)
  | b :: rest, w =>
    let first := clockByte b w
    let others := clockBytes rest first.2
    (first.1 :: others.1, others.2)

end Sys2Proof.Machine
end

