-- ==== Sys2Proof/Safety.lean ====
section
/-! DEFINITION. What claims call a sound state: one invariant for each block, each from rules of the spec, and all of them together. -/

namespace Sys2Proof.Machine

open Sys2Proof

/-- The phases in which the Transmit Queue is empty (R83). -/
def Phase.silent : Phase → Bool
  | .loading => true
  | .commission => true
  | .listen => false
  | .catchUp => false
  | .running => false
  | .mute => true

/-- The asker states a phase allows (R100, R105, R115). -/
def Phase.allowsAsker : Phase → AskerState → Bool
  | .loading, a => a == .idle
  | .commission, a => a == .idle
  | .listen, a => a == .idle
  | .catchUp, a => a == .asking || a == .window
  | .running, a => a == .finished
  | .mute, a => a == .idle || a == .finished

/-- The array of the Config Store is in its canonical form and the pointer lies in 0..2048 (R188). -/
def StoreWf (s : State) : Prop := Memory.wf s.store.array = true ∧ s.store.pointer ≤ Config.storeBytes

/-- What the phase says of the blocks that act by it (R83, R100, R106, R110, R159, R162). -/
structure PhaseSound (s : State) : Prop where
  /-- The phase is LOADING exactly until LOADING has ended. -/
  loading : s.node.phase = .loading ↔ s.node.loading ≠ .ended
  /-- The node is held at reset exactly while the RESET line is asserted or the supply is away. -/
  held : s.node.loading = .held ↔ s.pins.supply = false ∨ s.pins.resetLine = true
  /-- No transaction is open while the node is held. -/
  closed : s.node.loading = .held → s.port = .closed
  /-- A node that takes part in the installation has a station. -/
  station : s.node.phase.headsFollow = true → s.node.station.isSome = true
  /-- The second presence expiry ends LISTEN. -/
  listening : s.node.phase = .listen → s.node.listenExpiries ≤ 1
  /-- The Transmit Queue is empty in LOADING, COMMISSION and MUTE. -/
  queue : s.node.phase.silent = true → s.tx.records = []
  /-- The Held List is empty in every phase but LISTEN and CATCH_UP. -/
  heldList : s.node.phase ≠ .listen → s.node.phase ≠ .catchUp → s.catchUp.held = []
  /-- The asker stands where the phase allows. -/
  asker : s.node.phase.allowsAsker s.catchUp.asker = true
  /-- The window runs exactly while the asker is in WINDOW. -/
  window : s.catchUp.window.isRunning = true ↔ s.catchUp.asker = .window
  /-- The back-off timer runs exactly while answers are pending. -/
  backoff : s.catchUp.backoff.isRunning = true ↔ s.catchUp.answers ≠ 0
  /-- Answers are pending in RUNNING alone. -/
  answers : s.node.phase ≠ .running → s.catchUp.answers = 0

/-- Until LOADING has ended every block but the Node Controller, the Config Store and the Local Port holds its reset values, and the node has no station (R164, and the reset tables of each chapter). -/
def LoadingQuiet (s : State) : Prop :=
  s.node.loading ≠ .ended →
    s.lanes = State.reset.lanes ∧ s.filter.entries = State.reset.filter.entries ∧ s.presence = State.reset.presence ∧
    s.zoneStore = State.reset.zoneStore ∧ s.catchUp = State.reset.catchUp ∧ s.tx = State.reset.tx ∧
    s.occupancy = State.reset.occupancy ∧ s.inputs = State.reset.inputs ∧ s.heads = State.reset.heads ∧
    s.events = State.reset.events ∧ s.node.station = none

/-- A configuration whose vacant percents lie in 0..100 (R118). -/
def Configuration.percentsInRange (c : Configuration) : Prop := ∀ z : Zone, c.occupancy[z].percent ≤ 100

/-- A byte write is under way only in COMMISSION, or for a start counter byte once LOADING has read the store; and then it is (R164, R190). -/
structure WriteSound (s : State) : Prop where
  where_ : ∀ a v n, s.store.write = .writing a v n →
    s.node.phase = .commission ∨ (s.node.phase = .loading ∧ s.node.loading ≠ .held ∧ s.node.loading ≠ .reading ∧ a.val ≤ 1)
  under : ∀ found, s.node.loading = .checked found → s.store.isWriting = true
  percents : ∀ c, s.node.loading = .checked (.valid c) → c.percentsInRange

/-- The stamp clock stands at or above every held entry's stamp (R5), and CLOCK_EXHAUSTED is set only with the clock at its end (R6). -/
def ClockSound (s : State) : Prop :=
  (∀ (z : Zone) (x : Setting), s.zoneStore.table[z] = some x → x.stamp.toNat ≤ s.zoneStore.clock.toNat) ∧
  (s.zoneStore.exhausted = true → s.zoneStore.clock = maxWord)

/-- One copy of a record as its lane allows it: a live copy has failed at most 15 attempts, none is live on a DISABLED lane, and on a DOWN lane only PRESENCE is (R41, R82, R90). -/
def copySound (lane : LaneState) (presence : Bool) (copy : CopyState) (attempts : Nat) : Bool :=
  attempts ≤ 16 && (!copy.live || attempts ≤ 15) && (!copy.live || lane != .disabled) && (!copy.live || lane != .down || presence)

/-- How many records of the queue have the lane's copy IN_FLIGHT. -/
def flyingOn (L : Lane) (q : List TxRecord) : Nat := q.countP fun r => r.copies.get L == .inFlight

/-- The Transmit Queue holds at most 16 records, each with a live copy, at most one IN_FLIGHT on each lane and at most one PRESENCE (R71, R83, R87). -/
structure QueueSound (s : State) : Prop where
  room : s.tx.records.length ≤ queueRoom
  live : s.tx.records.all TxRecord.live = true
  flying : ∀ L, flyingOn L s.tx.records ≤ 1
  copies : ∀ L, s.tx.records.all
    (fun r => copySound (s.lanes.get L).state r.payload.isPresence (r.copies.get L) (r.attempts.get L)) = true
  presence : s.tx.records.countP (fun r => r.payload.isPresence) ≤ 1

/-- The request is an OCCUPY. -/
def HeldRequest.isOccupy : HeldRequest → Bool
  | .set _ _ _ _ _ _ => false
  | .recall _ _ _ => false
  | .occupy _ _ => true
  | .action _ _ _ => false

/-- The Held List holds at most 8 requests, at most one of them an OCCUPY (R110, R112). -/
def HeldSound (s : State) : Prop :=
  s.catchUp.held.length ≤ heldRoom ∧ s.catchUp.held.countP HeldRequest.isOccupy ≤ 1

/-- An UP lane's fault line is clear, and its abandon count is at most 1; a lane that is not UP has count 0 (R44, R46, R85). -/
def laneSound (lane : LaneInterface) (fault : Bool) : Bool :=
  if lane.state = .up then !fault && decide (lane.abandons ≤ 1) else lane.abandons == 0

/-- Both lanes are sound. -/
def LanesSound (s : State) : Prop := ∀ L, laneSound (s.lanes.get L) (s.pins.faultLines.get L) = true

/-- A peer record's counts lie where its state says, and no lane was heard since the last frame heard (R66, R67, R69, R72). -/
def peerSound (r : PeerRecord) : Bool :=
  decide (r.sinceLane.a ≤ 3) && decide (r.sinceLane.b ≤ 3) &&
    match r.state with
    | .absent => r.sinceHeard == 8 && r.sinceLane.a == 3 && r.sinceLane.b == 3
    | .present => decide (r.sinceHeard ≤ 2) && decide (r.sinceHeard ≤ r.sinceLane.a) && decide (r.sinceHeard ≤ r.sinceLane.b)
    | .silent => decide (3 ≤ r.sinceHeard) && decide (r.sinceHeard ≤ 7) && r.sinceLane.a == 3 && r.sinceLane.b == 3
    | .lost => r.sinceHeard == 8 && r.sinceLane.a == 3 && r.sinceLane.b == 3
    | .self => r.sinceHeard == 8 && r.sinceLane.a == 3 && r.sinceLane.b == 3

/-- Every peer record is sound, and the SELF record is the own station's, if there is one (R67). -/
def PeersSound (s : State) : Prop :=
  ∀ n : Station, peerSound s.presence.peers[n] = true ∧ (s.presence.peers[n].state = .self ↔ s.node.station = some n)

/-- An occupancy record as its zone's configuration allows it (R118, R119). An expiry is overtaken only where the full grace time has just been started (R126). -/
def recordSound (cfg : OccupancyConfig) (r : OccupancyRecord) : Bool :=
  decide (cfg.percent ≤ 100) && (cfg.enable || r.state == .follow) &&
    (!r.overtaken || (r.state == .occupied && r.timer == .running (graceTime cfg.grace))) &&
    match r.state with
    | .follow => r.timer == .stopped
    | .occupied => r.timer.isRunning
    | .vacant => r.timer.isRunning == (cfg.vacant != 0)
    | .dark => r.timer == .stopped

/-- Every occupancy record is sound, and in COMMISSION every one is FOLLOW (R119, R121). -/
def OccupancySound (s : State) : Prop :=
  ∀ z : Zone, recordSound s.occupancy.config[z] s.occupancy.records[z] = true ∧
    (s.node.phase = .commission → s.occupancy.records[z].state = .follow)

/-- An input record as its kind allows it (R134, R137). -/
def inputSound (cfg : InputConfig) (r : InputRecord) : Bool :=
  (r.active || (r.repeating == .stopped && r.refresh == .stopped)) &&
    match cfg.kind with
    | .unused => r == InputRecord.reset
    | .sensor _ => r.repeating == .stopped
    | .recall _ => r.repeating == .stopped && r.refresh == .stopped
    | .action k _ _ => (k.repeats || r.repeating == .stopped) && r.refresh == .stopped

/-- Every input record is sound, and in COMMISSION every one is at its reset values (R134). -/
def InputsSound (s : State) : Prop :=
  ∀ i : Line, inputSound s.inputs.config[i] s.inputs.records[i] = true ∧
    (s.node.phase = .commission → s.inputs.records[i] = InputRecord.reset)

/-- A channel record in its ranges: the duty buffer is the current value, and a fade that has ended has reached its target (R146, R151, R157). -/
def channelSound (c : ChannelRecord) : Bool :=
  decide (c.current ≤ 4095) && decide (c.target ≤ 4095) && decide (c.remaining ≤ 12000) && c.buffer == c.current &&
    (c.remaining != 0 || c.current == c.target)

/-- A channel that its head does not light: masked off, or of a head with zone none (R147, R148, R156). -/
def channelDark (h : HeadUnit) (ch : Channel) : Bool :=
  (h.config[headOf ch]).zone.isNone || !channelEnabled h.config[headOf ch] ch

/-- Every channel is in range, every output shows a value in 0..4095, and outside COMMISSION an unlit channel is 0 (R146). -/
def HeadsSound (s : State) : Prop :=
  ∀ ch : Channel, channelSound s.heads.channels[ch] = true ∧ s.heads.outputs[ch] ≤ 4095 ∧
    (s.node.phase ≠ .commission → channelDark s.heads ch = true → s.heads.channels[ch] = maskedChannel)

/-- Every block is sound. -/
structure Sound (s : State) : Prop where
  store : StoreWf s
  phase : PhaseSound s
  loading : LoadingQuiet s
  write : WriteSound s
  clock : ClockSound s
  queue : QueueSound s
  held : HeldSound s
  lanes : LanesSound s
  peers : PeersSound s
  occupancy : OccupancySound s
  inputs : InputsSound s
  heads : HeadsSound s

/-! ## Words of the statements -/

/-- A counter one higher, standing at 2^32 - 1 once there (R174). -/
def oneMore (v : Word32) : Word32 := if v = maxWord then v else v + 1

/-- A set with one more zone or station: how the detail of a set event takes a raise (R179). -/
def andOne (held : Option (BitVec 32)) (n : Fin 32) : Option (BitVec 32) := some (held.getD 0 ||| oneOf n)

/-- A lane set event's detail with one more lane (R179). -/
def andLane (held : Option LaneSet) (L : Lane) : Option LaneSet := some (laneUnion (held.getD ⟨false, false⟩) (oneLane L))

/-- A request's transaction is open and the phase serves every request (R184). -/
def Serving (s : State) : Prop := s.port = .opened ∧ s.node.phase ≠ .loading

/-- The state once a request has been answered with a result and no result bytes (R185). -/
def answeredWith (code : ResultCode) (s : State) : State := s.setPort (.answered [code.byte] false)

/-- A payload the part sends: zone sets are not empty and a SYNC_ENTRY has one to four entries (R31 to R33). -/
def Payload.sendable : Payload → Prop
  | .presence _ _ _ _ => True
  | .set _ _ _ _ _ => True
  | .recall _ _ _ => True
  | .occupy zones => zones ≠ 0
  | .syncAsk wanted => wanted ≠ 0
  | .syncEntry entries => 1 ≤ entries.length ∧ entries.length ≤ 4

/-- The record the queue makes of a payload it enters (R82, R84, R85). -/
def newRecord (p : Payload) (stamp : Word32) (s : State) : TxRecord :=
  { payload := p, startTag := s.node.startTag, sequence := s.tx.nextSequence, stamp := stamp,
    copies := newCopies p.isPresence s, attempts := ⟨0, 0⟩ }

/-- Some lane would take a copy of the payload (R85). -/
def anyPending (p : Payload) (s : State) : Prop :=
  (newCopies p.isPresence s).a = .pending ∨ (newCopies p.isPresence s).b = .pending

/-- The record of a zone as a wake leaves it, unless it is FOLLOW (R122), an expiry due at this moment overtaken (R126; the flag is the model's own, log 3). -/
def wokenRecord (cause : WakeCause) (z : Zone) (s : State) : OccupancyRecord :=
  if s.occupancy.records[z].state = .follow then s.occupancy.records[z]
  else { state := .occupied, timer := .running (graceTime s.occupancy.config[z].grace), cause := cause,
         overtaken := s.occupancy.records[z].graceDue }

/-- A channel lit by a head of the zone (R145, R147). -/
def lights (h : HeadUnit) (z : Zone) (ch : Channel) : Prop :=
  h.config[headOf ch].zone = some z ∧ channelEnabled h.config[headOf ch] ch = true

/-- The record is a SYNC_ASK whose last hope is its live copy on the lane: with that copy ABANDONED, it leaves the queue as a failed ask (R93, R94). -/
def askDiesOn (L : Lane) (r : TxRecord) : Bool :=
  r.payload.isAsk && (r.copies.get L).live && (r.copies.get L.other == .abandoned || r.copies.get L.other == .notUsed)

/-- A frame that its lane takes, GOOD, and not the node's own (R34 to R38). -/
structure ForeignFrame (L : Lane) (bytes : List Byte) (f : Frame) (s : State) : Prop where
  taken : laneReceives L s = true
  good : classify bytes = .good f
  notOwn : isOwn L bytes s = false

/-- What the Duplicate Filter decides of a frame taken now, its lane having come UP (R47, R50). -/
def filterJudges (L : Lane) (f : Frame) (s : State) : Verdict × OriginEntry :=
  judge L f s.filter.timeBase (lanesUp (bringLaneUp L s)) s.filter.entries[f.origin]

/-- What a record holds of its station's last accepted PRESENCE, and the library mismatch flag it gave (R76, R77). -/
def PeerRecord.announcement (r : PeerRecord) : Word16 × Option AnnouncedPhase × Bool × Bool × Word32 × Bool :=
  (r.checksum, r.phase, r.incomplete, r.singleLane, r.clock, r.mismatch)

/-- The bytes are of a receive class other than GOOD, whose counter is `c` (R35). -/
def badClass (bytes : List Byte) (c : LaneCounter) : Prop :=
  (classify bytes = .runt ∧ c = .rxRunt) ∨ (classify bytes = .overlong ∧ c = .rxOverlong) ∨
    (classify bytes = .crcError ∧ c = .rxCrcError) ∨ (classify bytes = .malformed ∧ c = .rxMalformed)

/-- The number that the byte at an address holds. -/
def numberAt (m : Memory) (a : Nat) : Nat := (Memory.read m a).toNat

/-- Every field of the Config Store is in its range (R165, test 3, with R17, R118, R133, R145, at the addresses of R193). -/
structure FieldsInRange (m : Memory) : Prop where
  station : numberAt m 0x002 ≤ 31
  laneUse : 1 ≤ numberAt m 0x003 ∧ numberAt m 0x003 ≤ 3
  rate : numberAt m 0x004 ≤ 3
  mask : numberAt m 0x005 ≤ 0x3F
  heads : ∀ h : Head, (numberAt m (0x007 + 2 * h.val) ≤ 31 ∨ numberAt m (0x007 + 2 * h.val) = 0xFF) ∧ numberAt m (0x008 + 2 * h.val) ≤ 7
  inputs : ∀ i : Line,
    let kind := numberAt m (0x00F + 4 * i.val)
    let argument := numberAt m (0x010 + 4 * i.val)
    let step := numberAt m (0x011 + 4 * i.val)
    kind = 0 ∨
      (kind ≤ 6 ∧ (if kind = 2 then argument ≤ 15 else argument ≤ 31) ∧ (5 ≤ kind → 1 ≤ step ∧ step ≤ 64) ∧
        numberAt m (0x012 + 4 * i.val) ≤ 7)
  presence : numberAt m 0x040 ≤ 3
  zones : ∀ z : Zone,
    numberAt m (0x041 + 10 * z.val) ≤ 1 ∧ numberAt m (0x042 + 10 * z.val) ≤ 15 ∧ numberAt m (0x043 + 10 * z.val) ≤ 15 ∧
    numberAt m (0x044 + 10 * z.val) ≤ 100 ∧ numberAt m (0x045 + 10 * z.val) ≤ 15 ∧ numberAt m (0x046 + 10 * z.val) ≤ 15
  directory : ∀ k : Look, numberAt m (0x181 + 2 * k.val) ≤ 239 ∧ numberAt m (0x182 + 2 * k.val) ≤ 32 ∧
    numberAt m (0x181 + 2 * k.val) + numberAt m (0x182 + 2 * k.val) ≤ 240
  pool : ∀ p : Fin 240, numberAt m (0x1A1 + 6 * p.val) ≤ 31 ∧ numberAt m (0x1A6 + 6 * p.val) ≤ 15
  distinct : ∀ k : Look,
    ((List.range (numberAt m (0x182 + 2 * k.val))).map (fun i => numberAt m (0x1A1 + 6 * (numberAt m (0x181 + 2 * k.val) + i)))).Nodup

/-- The kind of an input whose record starts at an address, in a store whose fields are in range (R133, R193). -/
def inputKindAt (m : Memory) (a : Nat) : InputKind :=
  let zone : Zone := Fin.ofNat 32 (numberAt m (a + 1))
  let step := numberAt m (a + 2)
  match numberAt m a with
  | 0 => .unused
  | 1 => .sensor zone
  | 2 => .recall (Fin.ofNat 16 (numberAt m (a + 1)))
  | 3 => .action .off zone step
  | 4 => .action .toggle zone step
  | 5 => .action .raise zone step
  | _ => .action .lower zone step

/-- The configuration is what the bytes of the Config Store hold (R166, R193). -/
structure HoldsConfiguration (m : Memory) (c : Configuration) : Prop where
  station : c.station.val = numberAt m 0x002
  laneUse : ∀ L, c.laneUse.get L = (Memory.read m 0x003).getLsbD (match L with
    | .A => 0
    | .B => 1)
  rate : c.rate.val = numberAt m 0x004
  mask : c.mask.toNat = 256 * numberAt m 0x005 + numberAt m 0x006
  heads : ∀ h : Head,
    c.heads[h].zone = (if numberAt m (0x007 + 2 * h.val) = 0xFF then none else some (Fin.ofNat 32 (numberAt m (0x007 + 2 * h.val)))) ∧
    c.heads[h].red = (Memory.read m (0x008 + 2 * h.val)).getLsbD 0 ∧ c.heads[h].green = (Memory.read m (0x008 + 2 * h.val)).getLsbD 1 ∧
    c.heads[h].blue = (Memory.read m (0x008 + 2 * h.val)).getLsbD 2
  inputs : ∀ i : Line, c.inputs[i].kind = inputKindAt m (0x00F + 4 * i.val) ∧
    (numberAt m (0x00F + 4 * i.val) ≠ 0 →
      c.inputs[i].activeLow = (Memory.read m (0x012 + 4 * i.val)).getLsbD 0 ∧ c.inputs[i].debounce.val = numberAt m (0x012 + 4 * i.val) / 2)
  presence : c.presence.val = numberAt m 0x040
  occupancy : ∀ z : Zone,
    (c.occupancy[z].enable = true ↔ numberAt m (0x041 + 10 * z.val) = 1) ∧ c.occupancy[z].grace.val = numberAt m (0x042 + 10 * z.val) ∧
    c.occupancy[z].vacant.val = numberAt m (0x043 + 10 * z.val) ∧ c.occupancy[z].percent = numberAt m (0x044 + 10 * z.val) ∧
    c.occupancy[z].fade.val = numberAt m (0x045 + 10 * z.val)
  defaults : ∀ z : Zone,
    c.defaults[z].switchFade.val = numberAt m (0x046 + 10 * z.val) ∧ c.defaults[z].level = Memory.read m (0x047 + 10 * z.val) ∧
    c.defaults[z].colour =
      ⟨Memory.read m (0x048 + 10 * z.val), Memory.read m (0x049 + 10 * z.val), Memory.read m (0x04A + 10 * z.val)⟩
  directory : ∀ k : Look, c.library.directory[k] = { start := numberAt m (0x181 + 2 * k.val), count := numberAt m (0x182 + 2 * k.val) }
  pool : ∀ p : Fin 240,
    c.library.pool[p].zone.val = numberAt m (0x1A1 + 6 * p.val) ∧ c.library.pool[p].level = Memory.read m (0x1A2 + 6 * p.val) ∧
    c.library.pool[p].colour =
      ⟨Memory.read m (0x1A3 + 6 * p.val), Memory.read m (0x1A4 + 6 * p.val), Memory.read m (0x1A5 + 6 * p.val)⟩ ∧
    c.library.pool[p].fade.val = numberAt m (0x1A6 + 6 * p.val)
  checksum : c.checksum = Memory.read m 0x741 ++ Memory.read m 0x742

/-- The frame is accepted (R50). -/
def Verdict.accepts : Verdict → Bool
  | .accepted => true
  | .restarted => true
  | .duplicate => false
  | .stale => false

/-- A peer's frame that its lane takes and the Duplicate Filter accepts (R34 to R38, R50). -/
def AcceptedFrom (L : Lane) (bytes : List Byte) (f : Frame) (s : State) : Prop :=
  ForeignFrame L bytes f s ∧ s.node.station ≠ some f.origin ∧ (filterJudges L f s).1.accepts = true

end Sys2Proof.Machine
end

