-- ==== Sys2Proof/Certificates/Slice0/Obligations.lean ====
section
/-! DEFINITION. The statements for the provers, from the numbered rules of the spec. -/

open Sys2Proof Sys2Proof.Machine

/-! ## The machine as a whole -/

/-- A step takes the command at the front of the queue and runs it on the state with the queue's rest. -/
def Obligations.FrontCommandRuns : Prop :=
  ∀ (c : Instr) (rest : List Instr) (s : State), step (s.setPending (c :: rest)) = exec c (s.setPending rest)

/-- The model's choice (log 2, log 3): with no command waiting 0.1 ms passes. The time base counts, every running timer counts down to 0 and waits there, an expiry overtaken before is past, and nothing else changes; without supply nothing changes. -/
def Obligations.EmptyQueuePassesTime : Prop :=
  (∀ n, (Timer.running n).later = .running (n - 1)) ∧ Timer.stopped.later = .stopped ∧
  (∀ s : State, s.pending = [] → s.pins.supply = false → step s = .next s) ∧
  (∀ s : State, s.pending = [] → s.pins.supply = true →
    ∃ t, step s = .next t ∧
      t.filter = { s.filter with timeBase := s.filter.timeBase + 1 } ∧
      t.presence = { s.presence with timer := s.presence.timer.later } ∧
      t.catchUp = { s.catchUp with window := s.catchUp.window.later, backoff := s.catchUp.backoff.later } ∧
      t.occupancy.config = s.occupancy.config ∧
      (∀ z : Zone, t.occupancy.records[z] = { s.occupancy.records[z] with timer := s.occupancy.records[z].timer.later, overtaken := false }) ∧
      t.inputs.config = s.inputs.config ∧
      (∀ i : Line, t.inputs.records[i] =
        { active := s.inputs.records[i].active, debounce := s.inputs.records[i].debounce.later,
          repeating := s.inputs.records[i].repeating.later, refresh := s.inputs.records[i].refresh.later }) ∧
      t.heads = { s.heads with fadeTick := s.heads.fadeTick.later, period := s.heads.period.later } ∧
      (s.store.write = .idle → t.store = s.store) ∧
      (∀ a v n, s.store.write = .writing a v n → t.store = { s.store with write := .writing a v (n - 1) }) ∧
      t = { s with filter := t.filter, presence := t.presence, catchUp := t.catchUp, occupancy := t.occupancy,
                   inputs := t.inputs, heads := t.heads, store := t.store })

/-- The values the spec gives the blocks after a reset. -/
def Obligations.ResetLeavesTheSpecsValues : Prop :=
  (∀ z : Zone, State.reset.zoneStore.table[z] = none) ∧ State.reset.zoneStore.clock = 0 ∧
  State.reset.zoneStore.exhausted = false ∧ State.reset.zoneStore.library = none ∧ State.reset.zoneStore.checksum = none ∧
  (∀ z : Zone, State.reset.zoneStore.defaults[z] = { colour := ⟨0, 0, 0⟩, level := 0, switchFade := 0 }) ∧
  (∀ L, (State.reset.lanes.get L).state = .disabled ∧ (State.reset.lanes.get L).abandons = 0) ∧
  (∀ n : Station, State.reset.filter.entries[n] =
    { active := false, startTag := 0, highest := 0, window := 0, lanesSeen := ⟨false, false⟩, firstCopy := 0,
      worstSkew := 0, laneMiss := ⟨0, 0⟩ }) ∧
  (∀ n : Station, State.reset.presence.peers[n] =
    { state := .absent, sinceHeard := 8, sinceLane := ⟨3, 3⟩, checksum := 0, phase := none, incomplete := false,
      singleLane := false, clock := 0, mismatch := false, crossed := false }) ∧
  State.reset.presence.timer = .stopped ∧
  State.reset.tx = { records := [], nextSequence := 0 } ∧
  State.reset.catchUp = { asker := .idle, retry := false, window := .stopped, answers := 0, backoff := .stopped,
                          held := [], incomplete := false } ∧
  (∀ z : Zone, State.reset.occupancy.config[z].enable = false ∧
    State.reset.occupancy.records[z] = { state := .follow, timer := .stopped, cause := .start, overtaken := false }) ∧
  (∀ i : Line, State.reset.inputs.config[i].kind = .unused ∧
    State.reset.inputs.records[i] = { active := false, debounce := .stopped, repeating := .stopped, refresh := .stopped }) ∧
  (∀ h : Head, State.reset.heads.config[h].zone = none) ∧
  (∀ c : Channel, State.reset.heads.channels[c] = { current := 0, target := 0, remaining := 0, buffer := 0 } ∧
    State.reset.heads.outputs[c] = 0) ∧
  State.reset.heads.fadeTick = .stopped ∧ State.reset.heads.period = .stopped ∧
  State.reset.node.phase = .loading ∧ State.reset.node.setupSample = false ∧ State.reset.node.station = none ∧
  State.reset.node.startCounter = 0 ∧ State.reset.node.startTag = 0 ∧
  State.reset.node.cause = { kind := .powerOn, interruptedWrite := false, configValid := false, reason := .none, conflict := none } ∧
  (∀ i : Fin 28, State.reset.counters.live[i] = 0 ∧ State.reset.counters.capture[i] = 0) ∧ State.reset.counters.latch = false ∧
  State.reset.events.records.inOrder = List.replicate 14 none ∧ State.reset.events.mask = 0 ∧
  State.reset.store.pointer = 0 ∧ State.reset.store.direction = .none ∧ State.reset.store.write = .idle ∧
  State.reset.port = .closed

/-- Right after reset every block is sound. -/
def Obligations.ResetIsSound : Prop := Sound State.reset

/-- Every step from a sound state leads to a sound state: every block's invariant, from every block's invariant. -/
def Obligations.EveryStepKeepsTheNodeSound : Prop :=
  ∀ s t : State, Sound s → step s = .next t → Sound t

/-- No step stops the block: every command has an effect, or none. That a command which cannot happen in the state at hand has none is the model's choice (log 1; log 8, log 23 and log 24 for requests, BAD_REQUEST and the lines): the expiry of a timer that does not run, the end of a read or write that is not under way, the start of a copy where none can start, the end of one that is not in flight, a request with no transaction waiting for one, and a line that has the level already. -/
def Obligations.NoCommandStopsTheNode : Prop :=
  (∀ (c : Instr) (s : State), ∃ t, exec c s = .next t) ∧
  ∀ s : State,
    (s.presence.timer = .stopped → exec .presenceExpiry s = .next s) ∧
    (s.catchUp.window = .stopped → exec .catchUpWindowExpiry s = .next s) ∧
    (s.catchUp.backoff = .stopped → exec .backoffExpiry s = .next s) ∧
    (∀ z : Zone, (s.occupancy.records[z].state ≠ .occupied ∨ s.occupancy.records[z].timer = .stopped) → exec (.graceExpiry z) s = .next s) ∧
    (∀ z : Zone, (s.occupancy.records[z].state ≠ .vacant ∨ s.occupancy.records[z].timer = .stopped) → exec (.vacantExpiry z) s = .next s) ∧
    (∀ i : Line,
      (s.inputs.records[i].debounce = .stopped → exec (.debounceExpiry i) s = .next s) ∧
      (s.inputs.records[i].repeating = .stopped → exec (.repeatExpiry i) s = .next s) ∧
      (s.inputs.records[i].refresh = .stopped → exec (.refreshExpiry i) s = .next s)) ∧
    (s.heads.fadeTick = .stopped → exec .fadeTick s = .next s) ∧ (s.heads.period = .stopped → exec .pwmPeriodStart s = .next s) ∧
    ((s.node.phase ≠ .loading ∨ s.node.loading ≠ .reading) → exec .loadingReadDone s = .next s) ∧
    (((∀ found, s.node.loading ≠ .checked found) ∨ s.store.write = .idle) → exec .startCounterWriteDone s = .next s) ∧
    ((s.node.phase = .loading ∨ s.store.write = .idle) → exec .configWriteDone s = .next s) ∧
    (∀ L : Lane,
      (((s.lanes.get L).state = .disabled ∨ ((s.lanes.get L).state = .down ∧ s.pins.faultLines.get L = true) ∨
          (∃ r ∈ s.tx.records, r.copies.get L = .inFlight) ∨ ∀ r ∈ s.tx.records, r.copies.get L ≠ .pending) →
        exec (.copyStart L) s = .next s) ∧
      ((∀ r ∈ s.tx.records, r.copies.get L ≠ .inFlight) →
        exec (.contestLost L) s = .next s ∧ exec (.copyEndNothingTakenBack L) s = .next s)) ∧
    (∀ c : Instr, requestBytes c ≠ [] → s.port ≠ .opened → exec c s = .next s) ∧
    (∀ code : Byte, code ∈ requestCodes → exec (.badRequest code) s = .next s) ∧
    (s.port ≠ .closed → exec .chipSelectAssert s = .next s) ∧ (s.port = .closed → exec .chipSelectRelease s = .next s) ∧
    (s.pins.resetLine = true → exec .resetLineAssert s = .next s) ∧ (s.pins.resetLine = false → exec .resetLineRelease s = .next s) ∧
    exec (.setupLineChange s.pins.setupLine) s = .next s ∧
    (∀ L : Lane, (s.pins.faultLines.get L = true → exec (.laneFaultAssert L) s = .next s) ∧
      (s.pins.faultLines.get L = false → exec (.laneFaultClear L) s = .next s)) ∧
    (∀ i : Line, exec (.inputLevelChange i s.pins.inputLines[i]) s = .next s)

/-- Outside a reset the stamp clock never falls, a HELD entry stays HELD, and it is replaced only by a higher pair. -/
def Obligations.EntriesAndClockNeverFall : Prop :=
  ∀ s t : State, step s = .next t → t.node.phase ≠ .loading →
    s.zoneStore.clock.toNat ≤ t.zoneStore.clock.toNat ∧
    ∀ (z : Zone) (x : Setting), s.zoneStore.table[z] = some x →
      ∃ y, t.zoneStore.table[z] = some y ∧ (y = x ∨ higher y x = true)

/-- Outside a reset and CAPTURE no live counter falls, and a capture counter changes by CAPTURE alone. -/
def Obligations.CountersOnlyRise : Prop :=
  ∀ (c : Instr) (s t : State), exec c s = .next t → t.node.phase ≠ .loading → c ≠ .capture →
    (∀ i : Fin 28, s.counters.live[i].toNat ≤ t.counters.live[i].toNat) ∧ t.counters.capture = s.counters.capture

/-- In a phase other than COMMISSION no byte of the Config Store changes but the start counter's two, and those only in LOADING. -/
def Obligations.StoreChangesOnlyInCommission : Prop :=
  ∀ s t : State, StoreWf s → PhaseSound s → WriteSound s → step s = .next t → s.node.phase ≠ .commission →
    (∀ a, 2 ≤ a → Memory.read t.store.array a = Memory.read s.store.array a) ∧
    (s.node.phase ≠ .loading → t.store.array = s.store.array)

/-- From a sound state the phase moves only as R159's table says, and to LOADING at a loss of supply, where the model shows the reset values (its choice, log 20). One step can pass through two of its rows: LISTEN to RUNNING, when an ask made at the entry of CATCH_UP fails at once (R103). -/
def Obligations.PhasesMoveOnlyAsListed : Prop :=
  ∀ (c : Instr) (s t : State), PhaseSound s → LanesSound s → exec c s = .next t → t.node.phase ≠ s.node.phase →
    (t.node.phase = .loading ∧ (c = .powerOn ∨ c = .lossOfSupply ∨ c = .resetLineAssert ∨ c = .chipSelectRelease)) ∨
    (s.node.phase = .loading ∧ c = .startCounterWriteDone ∧ (t.node.phase = .commission ∨ t.node.phase = .listen)) ∨
    (s.node.phase = .listen ∧ c = .presenceExpiry ∧ (t.node.phase = .catchUp ∨ t.node.phase = .running)) ∨
    (s.node.phase = .catchUp ∧ s.catchUp.asker = .window ∧ c = .catchUpWindowExpiry ∧ t.node.phase = .running) ∨
    (s.node.phase = .catchUp ∧ s.catchUp.asker = .asking ∧ t.node.phase = .running ∧ t.catchUp.incomplete = true) ∨
    ((s.node.phase = .listen ∨ s.node.phase = .catchUp ∨ s.node.phase = .running) ∧ t.node.phase = .mute ∧
      ∃ L bytes, c = .frameReceived L bytes)

/-! ## The Zone Store -/

/-- Settings are ordered by (stamp, origin), lexicographically; of two settings one is higher, or their pairs are equal, and nothing else of a setting takes part. -/
def Obligations.StampOrderIsLexicographic : Prop :=
  (∀ x y : Setting, higher x y = true ↔ y.stamp.toNat < x.stamp.toNat ∨ (x.stamp = y.stamp ∧ y.origin.val < x.origin.val)) ∧
  (∀ x y : Setting, samePair x y = true ↔ x.stamp = y.stamp ∧ x.origin = y.origin) ∧
  (∀ x y : Setting, (higher x y = true ∧ samePair x y = false ∧ higher y x = false) ∨
    (higher x y = false ∧ samePair x y = true ∧ higher y x = false) ∨
    (higher x y = false ∧ samePair x y = false ∧ higher y x = true)) ∧
  (∀ x y : Setting, x.stamp = 61 → x.origin = 4 → y.stamp = 53 → y.origin = 9 → higher x y = true) ∧
  (∀ x y : Setting, x.stamp = 61 → x.origin = 17 → y.stamp = 61 → y.origin = 4 → higher x y = true) ∧
  (∀ x y x' y' : Setting, x'.stamp = x.stamp → x'.origin = x.origin → y'.stamp = y.stamp → y'.origin = y.origin →
    higher x' y' = higher x y ∧ samePair x' y' = samePair x y)

/-- The merge rule: the clock rises to the stamp; an EMPTY entry or a lower pair is replaced, with ZONE_CHANGED and a new fade of the zone's heads; an equal pair leaves everything; a lower setting is counted SET_SUPERSEDED. Of the Head Unit nothing but the channels of the zone's heads moves, and their masked channels are set to 0. -/
def Obligations.MergeKeepsTheHigherSetting : Prop :=
  ∀ (z : Zone) (x : Setting) (s : State),
    let t := merge z x s
    t.zoneStore.clock.toNat = max s.zoneStore.clock.toNat x.stamp.toNat ∧
    t.zoneStore = { s.zoneStore with clock := t.zoneStore.clock, table := t.zoneStore.table } ∧
    (∀ z', z' ≠ z → t.zoneStore.table[z'] = s.zoneStore.table[z']) ∧
    ((s.zoneStore.table[z] = none ∨ ∃ e, s.zoneStore.table[z] = some e ∧ higher x e = true) →
      t.zoneStore.table[z] = some x ∧ t.counters = s.counters ∧
      t.events = { s.events with records := { s.events.records with zoneChanged := andOne s.events.records.zoneChanged z } } ∧
      (s.node.phase.headsFollow = true →
        ∀ ch : Channel, lights s.heads z ch →
          t.heads.channels[ch] =
            startFade (targetOf (componentOf x.colour ch) x.level (factorOf s.occupancy z)) x.fade s.heads.channels[ch]) ∧
      (s.node.phase.headsFollow = true →
        ∀ ch : Channel, s.heads.config[headOf ch].zone = some z → channelEnabled s.heads.config[headOf ch] ch = false →
          t.heads.channels[ch] = { current := 0, target := 0, remaining := 0, buffer := 0 }) ∧
      (∀ ch : Channel, s.heads.config[headOf ch].zone ≠ some z → t.heads.channels[ch] = s.heads.channels[ch]) ∧
      (s.node.phase.headsFollow = false → t.heads = s.heads)) ∧
    (∀ e, s.zoneStore.table[z] = some e → samePair x e = true →
      t.zoneStore.table = s.zoneStore.table ∧ t.counters = s.counters ∧ t.events = s.events ∧ t.heads = s.heads) ∧
    (∀ e, s.zoneStore.table[z] = some e → higher e x = true →
      t.zoneStore.table = s.zoneStore.table ∧ t.heads = s.heads ∧
      (∀ i : Fin 28, t.counters.live[i] = if i = 23 then oneMore s.counters.live[i] else s.counters.live[i]) ∧
      t.events.records.zoneChanged = s.events.records.zoneChanged) ∧
    t.heads = { s.heads with channels := t.heads.channels } ∧
    t = { s with zoneStore := t.zoneStore, heads := t.heads, counters := t.counters, events := t.events }

/-- Two settings of different pairs for one zone leave the same entry and the same clock in either order; of two of equal pairs the first taken stands. -/
def Obligations.MergeOrderDoesNotMatter : Prop :=
  ∀ (z : Zone) (x y : Setting) (s : State),
    (samePair x y = false → (merge z x (merge z y s)).zoneStore = (merge z y (merge z x s)).zoneStore) ∧
    (samePair x y = true → (merge z y (merge z x s)).zoneStore = (merge z x s).zoneStore)

/-- PUBLISH_SET in RUNNING: the clock advances to a new stamp, the setting replaces the zone's entry, a wake flag wakes the zone with cause PORT, and the SET record is offered; the result is the offer's. With the clock at 2^32 - 1 it is refused with CLOCK_EXHAUSTED, and the flag is all it leaves. (A node without a station would write station 0, the model's choice in log 16.) -/
def Obligations.PublishSetPerforms : Prop :=
  (∀ (z : Zone) (r g b level options : Byte) (s : State),
      s.port = .opened → s.node.phase = .running → s.catchUp.asker = .finished → ClockSound s →
      options &&& 0xE0#8 = 0 → s.zoneStore.clock ≠ maxWord →
      let fade : FadeCode := ⟨options.toNat % 16, Nat.mod_lt _ (by decide)⟩
      let waking := options.getLsbD 4
      let stamp := s.zoneStore.clock + 1
      let x : Setting := { colour := ⟨r, g, b⟩, level := level, fade := fade, stamp := stamp, origin := s.node.station.getD 0, source := .set }
      let offer := offerRecord (.set z ⟨r, g, b⟩ level fade waking) stamp s
      ∃ t, exec (.publishSet (BitVec.ofNat 8 z.val) r g b level options) s = .next t ∧
        t.zoneStore = { s.zoneStore with clock := stamp, table := update s.zoneStore.table z (some x) } ∧
        t.events.records.zoneChanged = andOne s.events.records.zoneChanged z ∧
        t.occupancy.config = s.occupancy.config ∧
        (∀ z' : Zone, t.occupancy.records[z'] =
          if z' = z ∧ waking = true then wokenRecord .port z s else s.occupancy.records[z']) ∧
        t.tx = offer.state.tx ∧ t.port = .answered [offer.outcome.result.byte] false ∧
        t = { s with zoneStore := t.zoneStore, heads := t.heads, occupancy := t.occupancy, tx := t.tx, counters := t.counters,
                     events := t.events, port := t.port }) ∧
  (∀ (z : Zone) (r g b level options : Byte) (s : State),
      s.port = .opened → s.node.phase = .running → options &&& 0xE0#8 = 0 → s.zoneStore.clock = maxWord →
      exec (.publishSet (BitVec.ofNat 8 z.val) r g b level options) s =
        .next (answeredWith .clockExhausted (s.setZoneStore { s.zoneStore with exhausted := true })))

/-- PUBLISH_RECALL in RUNNING: an undefined look is refused with nothing done; of a defined look every setting takes the new stamp and replaces its zone's entry, a wake flag wakes each zone, and the RECALL record is offered. With the clock at 2^32 - 1 a defined look is refused with CLOCK_EXHAUSTED. (Without a station or a checksum the model writes 0, log 16.) -/
def Obligations.PublishRecallPerforms : Prop :=
  ∀ (look : Look) (waking : Bool) (s : State),
    s.port = .opened → s.node.phase = .running → s.catchUp.asker = .finished → ClockSound s →
    let options : Byte := if waking then 1 else 0
    let command : Instr := .publishRecall (BitVec.ofNat 8 look.val) options
    (lookSettings s.zoneStore look = [] → exec command s = .next (answeredWith .lookUndefined s)) ∧
    (lookSettings s.zoneStore look ≠ [] → s.zoneStore.clock = maxWord →
      exec command s = .next (answeredWith .clockExhausted (s.setZoneStore { s.zoneStore with exhausted := true }))) ∧
    (lookSettings s.zoneStore look ≠ [] → (lookZones s.zoneStore look).Nodup → s.zoneStore.clock ≠ maxWord →
      let stamp := s.zoneStore.clock + 1
      let offer := offerRecord (.recall look (s.zoneStore.checksum.getD 0) waking) stamp s
      ∃ t, exec command s = .next t ∧
        t.zoneStore = { s.zoneStore with clock := stamp, table := t.zoneStore.table } ∧
        (∀ p ∈ lookSettings s.zoneStore look, t.zoneStore.table[p.zone] =
          some { colour := p.colour, level := p.level, fade := p.fade, stamp := stamp, origin := s.node.station.getD 0,
                 source := .recall look }) ∧
        (∀ z : Zone, z ∉ lookZones s.zoneStore look → t.zoneStore.table[z] = s.zoneStore.table[z]) ∧
        (∀ z : Zone, inSet (t.events.records.zoneChanged.getD 0) z =
          (inSet (s.events.records.zoneChanged.getD 0) z || decide (z ∈ lookZones s.zoneStore look))) ∧
        (∀ z : Zone, t.occupancy.records[z] =
          if z ∈ lookZones s.zoneStore look ∧ waking = true then wokenRecord .port z s else s.occupancy.records[z]) ∧
        t.tx = offer.state.tx ∧ t.port = .answered [offer.outcome.result.byte] false ∧
        t = { s with zoneStore := t.zoneStore, heads := t.heads, occupancy := t.occupancy, tx := t.tx,
                     counters := t.counters, events := t.events, port := t.port })

/-- PUBLISH_SET and PUBLISH_RECALL outside RUNNING: held, HELD_FULL with 8 held, REFUSED_PHASE or MUTED. -/
def Obligations.PublicationsFollowThePhase : Prop :=
  ∀ (z : Zone) (r g b level : Byte) (fade : FadeCode) (look : Look) (waking : Bool) (s : State), s.port = .opened →
    let setCommand : Instr := .publishSet (BitVec.ofNat 8 z.val) r g b level (BitVec.ofNat 8 fade.val ||| (if waking then 0x10 else 0))
    let recallCommand : Instr := .publishRecall (BitVec.ofNat 8 look.val) (if waking then 1 else 0)
    let hold (h : HeldRequest) : State := s.setCatchUp { s.catchUp with held := s.catchUp.held ++ [h] }
    ((s.node.phase = .listen ∨ s.node.phase = .catchUp) → s.catchUp.held.length < 8 →
      exec setCommand s = .next (answeredWith .held (hold (.set z ⟨r, g, b⟩ level fade waking .port))) ∧
      exec recallCommand s = .next (answeredWith .held (hold (.recall look waking .port)))) ∧
    ((s.node.phase = .listen ∨ s.node.phase = .catchUp) → 8 ≤ s.catchUp.held.length →
      exec setCommand s = .next (answeredWith .heldFull (countNode .heldDrop s)) ∧
      exec recallCommand s = .next (answeredWith .heldFull (countNode .heldDrop s))) ∧
    ((s.node.phase = .commission ∨ s.node.phase = .loading) →
      exec setCommand s = .next (answeredWith .refusedPhase s) ∧ exec recallCommand s = .next (answeredWith .refusedPhase s)) ∧
    (s.node.phase = .mute →
      exec setCommand s = .next (answeredWith .muted s) ∧ exec recallCommand s = .next (answeredWith .muted s))

/-! ## Frames -/

/-- Every frame the part can send is taken back GOOD, with every field as it was sent. -/
def Obligations.SentFramesReadBack : Prop := ∀ f : Frame, f.payload.sendable → classify f.bytes = .good f

/-- Every run of bytes taken as a GOOD frame is what the part would send for that frame: no bit of it is passed over. -/
def Obligations.GoodFramesSpellThemselves : Prop :=
  ∀ (bytes : List Byte) (f : Frame), classify bytes = .good f → f.bytes = bytes ∧ f.payload.sendable

/-- The first test of R35 that holds gives the class; the header tests of R36 make a frame MALFORMED. With no copy in flight, a frame of a class other than GOOD is counted on its lane and goes no further; while the lane is DISABLED or its fault line asserted, nothing is taken. -/
def Obligations.DamagedFramesAreOnlyCounted : Prop :=
  ((∀ bytes : List Byte, bytes.length < 12 → classify bytes = .runt) ∧
    (∀ bytes : List Byte, 60 < bytes.length → classify bytes = .overlong) ∧
    (∀ (body : List Byte) (crc : Word16), 10 ≤ body.length → body.length ≤ 58 → crc ≠ crc16 body →
      classify (body ++ [crc.extractLsb' 8 8, crc.extractLsb' 0 8]) = .crcError) ∧
    (∀ (h0 h1 h2 h3 h4 h5 h6 h7 h8 length : Byte) (payload : List Byte),
      let body := [h0, h1, h2, h3, h4, h5, h6, h7, h8, length] ++ payload
      let crc := crc16 body
      payload.length ≤ 48 →
      (length.toNat ≠ payload.length ∨ h0.toNat / 16 = 0 ∨ 6 < h0.toNat / 16 ∨ h0 &&& 0x07#8 ≠ 0 ∨ h1 &&& 0x60#8 ≠ 0 ∨
        (h0.getLsbD 3 = true ↔ ¬(h0.toNat / 16 = 2 ∨ h0.toNat / 16 = 3 ∨ h0.toNat / 16 = 4))) →
      classify (body ++ [crc.extractLsb' 8 8, crc.extractLsb' 0 8]) = .malformed)) ∧
  (∀ (L : Lane) (bytes : List Byte) (s : State),
      (((s.lanes.get L).state = .disabled ∨ s.pins.faultLines.get L = true) → exec (.frameReceived L bytes) s = .next s) ∧
      ((s.lanes.get L).state ≠ .disabled → s.pins.faultLines.get L = false → inFlightOn L s.tx.records = none →
        (classify bytes = .runt → exec (.frameReceived L bytes) s = .next (countLane L .rxRunt s)) ∧
        (classify bytes = .overlong → exec (.frameReceived L bytes) s = .next (countLane L .rxOverlong s)) ∧
        (classify bytes = .crcError → exec (.frameReceived L bytes) s = .next (countLane L .rxCrcError s)) ∧
        (classify bytes = .malformed → exec (.frameReceived L bytes) s = .next (countLane L .rxMalformed s))))

/-- A GOOD frame of a peer is counted RX_GOOD, brings its lane UP, makes its origin PRESENT on that lane, and is judged by the Duplicate Filter, which counts a duplicate, a stale frame and a restart; one that is dropped reaches no handler, and one that is accepted raises the clock and has the effect of its handler, whatever its kind. LANE_UP is raised when the lane was DOWN, and only then. A copy in flight stays in flight (the model's reading, log 11). -/
def Obligations.GoodFramesReachMonitorAndFilter : Prop :=
  ∀ (L : Lane) (bytes : List Byte) (f : Frame) (s : State), ForeignFrame L bytes f s →
    s.node.station ≠ some f.origin → s.presence.peers[f.origin].state ≠ .self →
    ∃ t, exec (.frameReceived L bytes) s = .next t ∧
      (t.lanes.get L).state = .up ∧ t.lanes.get L.other = s.lanes.get L.other ∧
      t.presence.peers[f.origin].state = .present ∧ t.presence.peers[f.origin].sinceHeard = 0 ∧
      t.presence.peers[f.origin].sinceLane = s.presence.peers[f.origin].sinceLane.put L 0 ∧
      t.presence.peers[f.origin].crossed = (s.presence.peers[f.origin].crossed || f.laneTag != L) ∧
      (∀ n : Station, n ≠ f.origin → t.presence.peers[n] = s.presence.peers[n]) ∧
      t.presence.timer = s.presence.timer ∧
      t.counters.live[laneIndex L .rxGood] = oneMore s.counters.live[laneIndex L .rxGood] ∧
      t.counters.live[laneIndex L .rxCrossed] =
        (if f.laneTag = L then s.counters.live[laneIndex L .rxCrossed] else oneMore s.counters.live[laneIndex L .rxCrossed]) ∧
      t.counters.live[laneIndex L .rxDuplicate] =
        (if (filterJudges L f s).1 = .duplicate then oneMore s.counters.live[laneIndex L .rxDuplicate]
         else s.counters.live[laneIndex L .rxDuplicate]) ∧
      t.counters.live[laneIndex L .rxStale] =
        (if (filterJudges L f s).1 = .stale then oneMore s.counters.live[laneIndex L .rxStale] else s.counters.live[laneIndex L .rxStale]) ∧
      t.counters.live[nodeIndex .peerRestart] =
        (if (filterJudges L f s).1 = .restarted then oneMore s.counters.live[nodeIndex .peerRestart]
         else s.counters.live[nodeIndex .peerRestart]) ∧
      t.events.records.peerRestart =
        (if (filterJudges L f s).1 = .restarted then andOne s.events.records.peerRestart f.origin else s.events.records.peerRestart) ∧
      t.events.records.peerJoined =
        (if s.presence.peers[f.origin].state = .absent ∨ s.presence.peers[f.origin].state = .lost
         then andOne s.events.records.peerJoined f.origin else s.events.records.peerJoined) ∧
      t.events.records.laneUp =
        (if (s.lanes.get L).state = .down then andLane s.events.records.laneUp L else s.events.records.laneUp) ∧
      t.filter.timeBase = s.filter.timeBase ∧
      (∀ n : Station, t.filter.entries[n] = if n = f.origin then (filterJudges L f s).2 else s.filter.entries[n]) ∧
      ((filterJudges L f s).1.accepts = true → f.stamp.toNat ≤ t.zoneStore.clock.toNat) ∧
      ((filterJudges L f s).1.accepts = true →
        let handled := acceptFrame f s
        t.zoneStore = handled.zoneStore ∧ t.heads = handled.heads ∧ t.occupancy = handled.occupancy ∧ t.catchUp = handled.catchUp ∧
        t.presence.peers[f.origin].announcement = handled.presence.peers[f.origin].announcement ∧
        (∀ c : NodeCounter, c ≠ .peerRestart → t.counters.live[nodeIndex c] = handled.counters.live[nodeIndex c]) ∧
        t.events.records.zoneChanged = handled.events.records.zoneChanged ∧
        t.events.records.occupancyChanged = handled.events.records.occupancyChanged ∧
        t.events.records.libraryMismatch = handled.events.records.libraryMismatch) ∧
      ((filterJudges L f s).1.accepts = false →
        t.zoneStore = s.zoneStore ∧ t.heads = s.heads ∧ t.occupancy = s.occupancy ∧ t.catchUp = s.catchUp ∧
        t.presence.peers[f.origin].announcement = s.presence.peers[f.origin].announcement) ∧
      t = { s with lanes := t.lanes, filter := t.filter, presence := t.presence, zoneStore := t.zoneStore, heads := t.heads,
                   occupancy := t.occupancy, catchUp := t.catchUp, counters := t.counters, events := t.events }

/-- An accepted SET of a peer is merged as one setting, and its wake flag wakes the zone with cause OCCUPY_FRAME whatever the merge gave. An accepted OCCUPY wakes every zone it lists with cause OCCUPY_FRAME, and of the Zone Store raises the clock alone. -/
def Obligations.AcceptedSetIsMergedAndWakes : Prop :=
  (∀ (L : Lane) (bytes : List Byte) (f : Frame) (z : Zone) (colour : Colour) (level : Byte) (fade : FadeCode) (waking : Bool) (s : State),
    ForeignFrame L bytes f s → s.node.station ≠ some f.origin → f.payload = .set z colour level fade waking →
    (filterJudges L f s).1.accepts = true →
    let x : Setting := { colour := colour, level := level, fade := fade, stamp := f.stamp, origin := f.origin, source := .set }
    ∃ t, exec (.frameReceived L bytes) s = .next t ∧
      t.zoneStore = (merge z x s).zoneStore ∧
      (∀ z' : Zone, t.occupancy.records[z'] =
        if z' = z ∧ waking = true then wokenRecord .occupyFrame z s else s.occupancy.records[z']) ∧
      t.occupancy.config = s.occupancy.config ∧ t.catchUp = s.catchUp ∧ t.tx = s.tx ∧ t.node = s.node) ∧
  (∀ (L : Lane) (bytes : List Byte) (f : Frame) (zones : ZoneSet) (s : State),
    ForeignFrame L bytes f s → s.node.station ≠ some f.origin → f.payload = .occupy zones →
    (filterJudges L f s).1.accepts = true →
    ∃ t, exec (.frameReceived L bytes) s = .next t ∧
      (∀ z : Zone, t.occupancy.records[z] = if inSet zones z = true then wokenRecord .occupyFrame z s else s.occupancy.records[z]) ∧
      (∀ z : Zone, inSet (t.events.records.occupancyChanged.getD 0) z =
        (inSet (s.events.records.occupancyChanged.getD 0) z ||
          (inSet zones z && (s.occupancy.records[z].state == .vacant || s.occupancy.records[z].state == .dark)))) ∧
      t.occupancy.config = s.occupancy.config ∧
      t.zoneStore = { s.zoneStore with clock := t.zoneStore.clock } ∧
      t.zoneStore.clock.toNat = max s.zoneStore.clock.toNat f.stamp.toNat ∧
      t.catchUp = s.catchUp ∧ t.tx = s.tx ∧ t.node = s.node)

/-- An accepted RECALL whose checksum is not the node's own is refused: RECALL_REFUSED is counted, and only the raise of the clock stands. One that matches merges every setting of the look with the frame's pair. FRAME_RECEIVED of an accepted RECALL of a peer has just this effect on the Zone Store, the heads and the Occupancy Unit. -/
def Obligations.AcceptedRecallNeedsTheChecksum : Prop :=
  ∀ (f : Frame) (look : Look) (checksum : Word16) (waking : Bool) (s : State), f.payload = .recall look checksum waking →
    (s.zoneStore.checksum ≠ some checksum → acceptFrame f s = countNode .recallRefused (raiseClock f.stamp s)) ∧
    (s.zoneStore.checksum = some checksum → (lookZones s.zoneStore look).Nodup →
      let t := acceptFrame f s
      (∀ p ∈ lookSettings s.zoneStore look, t.zoneStore.table[p.zone] =
        (merge p.zone { colour := p.colour, level := p.level, fade := p.fade, stamp := f.stamp, origin := f.origin,
                        source := .recall look } s).zoneStore.table[p.zone]) ∧
      (∀ z : Zone, z ∉ lookZones s.zoneStore look → t.zoneStore.table[z] = s.zoneStore.table[z]) ∧
      (∀ z : Zone, t.occupancy.records[z] =
        if z ∈ lookZones s.zoneStore look ∧ waking = true then wokenRecord .occupyFrame z s else s.occupancy.records[z]) ∧
      t = { s with zoneStore := t.zoneStore, heads := t.heads, occupancy := t.occupancy, counters := t.counters, events := t.events }) ∧
    (∀ (L : Lane) (bytes : List Byte), AcceptedFrom L bytes f s →
      ∃ t, exec (.frameReceived L bytes) s = .next t ∧
        t.zoneStore = (acceptFrame f s).zoneStore ∧ t.heads = (acceptFrame f s).heads ∧ t.occupancy = (acceptFrame f s).occupancy ∧
        t.counters.live[nodeIndex .recallRefused] = (acceptFrame f s).counters.live[nodeIndex .recallRefused] ∧
        t.events.records.zoneChanged = (acceptFrame f s).events.records.zoneChanged ∧
        t.catchUp = s.catchUp ∧ t.tx = s.tx ∧ t.node = s.node)

/-- The node's own copy taken back: SENT, TX_SENT counted, the abandon count 0, a DOWN lane UP with LANE_UP raised, the record gone once at rest. The first copy of a SYNC_ASK to be SENT starts the window of an asker that is ASKING; with the other copy SENT before, or the asker elsewhere, the Catch-Up Unit stays as it is. Neither the clock, the Peer Table nor the filter hears of it. -/
def Obligations.OwnFrameCompletesItsCopy : Prop :=
  ∀ (L : Lane) (bytes : List Byte) (f : Frame) (r : TxRecord) (s : State),
    laneReceives L s = true → classify bytes = .good f → isOwn L bytes s = true → inFlightOn L s.tx.records = some r → QueueSound s →
    ∃ t, exec (.frameReceived L bytes) s = .next t ∧
      t.lanes.get L = { state := .up, abandons := 0 } ∧ t.lanes.get L.other = s.lanes.get L.other ∧
      (∀ i : Fin 28, t.counters.live[i] = if i = laneIndex L .txSent then oneMore s.counters.live[i] else s.counters.live[i]) ∧
      t.events.records.laneUp =
        (if (s.lanes.get L).state = .down then andLane s.events.records.laneUp L else s.events.records.laneUp) ∧
      t.tx.nextSequence = s.tx.nextSequence ∧
      (∃ older younger, s.tx.records = older ++ r :: younger ∧
        t.tx.records =
          older ++ (if (r.copies.get L.other).live then [r.setCopy L .sent] else []) ++ younger) ∧
      (r.payload.isAsk = true → r.copies.get L.other ≠ .sent → s.catchUp.asker = .asking →
        t.catchUp = { s.catchUp with asker := .window, window := .running 2500 }) ∧
      (r.payload.isAsk = true → (r.copies.get L.other = .sent ∨ s.catchUp.asker ≠ .asking) → t.catchUp = s.catchUp) ∧
      (r.payload.isAsk = false → t.catchUp = s.catchUp) ∧
      t = { s with lanes := t.lanes, catchUp := t.catchUp, tx := t.tx, counters := t.counters, events := t.events }

/-- A station conflict in LISTEN, CATCH_UP or RUNNING mutes the node; in COMMISSION and MUTE it raises STATION_CONFLICT and moves no phase. The conflicting frame is judged by the own station's window entry, and leaves the SELF record its state and counts: it sets the crossed flag, and an accepted PRESENCE its announced fields. It is counted as a duplicate, a stale frame or a restart as that judgement says, and an accepted one has its handler's effect on the Zone Store, the heads and the Occupancy Unit in the phase the conflict left; in COMMISSION and MUTE on the Catch-Up Unit too. One that is dropped has none. -/
def Obligations.StationConflictMutes : Prop :=
  ∀ (L : Lane) (bytes : List Byte) (f : Frame) (s : State), ForeignFrame L bytes f s → s.node.station = some f.origin →
    ∃ t, exec (.frameReceived L bytes) s = .next t ∧
      t.counters.live[laneIndex L .rxGood] = oneMore s.counters.live[laneIndex L .rxGood] ∧
      (s.node.phase ≠ .loading → t.events.records.stationConflict = some f.origin) ∧
      ((s.node.phase = .listen ∨ s.node.phase = .catchUp ∨ s.node.phase = .running) →
        t.node = { s.node with phase := .mute, cause := { s.node.cause with conflict := some f.origin } } ∧
        t.tx = { s.tx with records := [] } ∧ t.catchUp.held = [] ∧ t.catchUp.answers = 0 ∧ t.catchUp.backoff = .stopped ∧
        t.catchUp.window = .stopped ∧ t.catchUp.retry = false ∧ t.catchUp.incomplete = s.catchUp.incomplete ∧
        t.catchUp.asker = (if s.catchUp.asker = .finished then .finished else .idle)) ∧
      ((s.node.phase = .commission ∨ s.node.phase = .mute) → t.node = s.node ∧ t.tx = s.tx) ∧
      (s.presence.peers[f.origin].state = .self →
        t.presence.peers[f.origin].state = .self ∧
        t.presence.peers[f.origin].sinceHeard = s.presence.peers[f.origin].sinceHeard ∧
        t.presence.peers[f.origin].sinceLane = s.presence.peers[f.origin].sinceLane ∧
        t.presence.peers[f.origin].crossed = (s.presence.peers[f.origin].crossed || f.laneTag != L) ∧
        t.presence.peers[f.origin].announcement =
          (if (filterJudges L f s).1.accepts = true then (acceptFrame f s).presence.peers[f.origin].announcement
           else s.presence.peers[f.origin].announcement) ∧
        t.events.records.peerJoined = s.events.records.peerJoined) ∧
      (∀ n : Station, n ≠ f.origin → t.presence.peers[n] = s.presence.peers[n]) ∧
      t.filter.timeBase = s.filter.timeBase ∧
      (∀ n : Station, t.filter.entries[n] = if n = f.origin then (filterJudges L f s).2 else s.filter.entries[n]) ∧
      t.counters.live[laneIndex L .rxCrossed] =
        (if f.laneTag = L then s.counters.live[laneIndex L .rxCrossed] else oneMore s.counters.live[laneIndex L .rxCrossed]) ∧
      t.counters.live[laneIndex L .rxDuplicate] =
        (if (filterJudges L f s).1 = .duplicate then oneMore s.counters.live[laneIndex L .rxDuplicate]
         else s.counters.live[laneIndex L .rxDuplicate]) ∧
      t.counters.live[laneIndex L .rxStale] =
        (if (filterJudges L f s).1 = .stale then oneMore s.counters.live[laneIndex L .rxStale] else s.counters.live[laneIndex L .rxStale]) ∧
      t.counters.live[nodeIndex .peerRestart] =
        (if (filterJudges L f s).1 = .restarted then oneMore s.counters.live[nodeIndex .peerRestart]
         else s.counters.live[nodeIndex .peerRestart]) ∧
      t.events.records.peerRestart =
        (if (filterJudges L f s).1 = .restarted then andOne s.events.records.peerRestart f.origin else s.events.records.peerRestart) ∧
      ((filterJudges L f s).1.accepts = true →
        let handled := acceptFrame f s
        t.zoneStore = handled.zoneStore ∧ t.heads = handled.heads ∧ t.occupancy = handled.occupancy ∧
        ((s.node.phase = .commission ∨ s.node.phase = .mute) → t.catchUp = handled.catchUp) ∧
        (∀ c : NodeCounter, c ≠ .peerRestart → t.counters.live[nodeIndex c] = handled.counters.live[nodeIndex c]) ∧
        t.events.records.zoneChanged = handled.events.records.zoneChanged ∧
        t.events.records.occupancyChanged = handled.events.records.occupancyChanged ∧
        t.events.records.libraryMismatch = handled.events.records.libraryMismatch) ∧
      ((filterJudges L f s).1.accepts = false →
        t.zoneStore = s.zoneStore ∧ t.heads = s.heads ∧ t.occupancy = s.occupancy ∧
        ((s.node.phase = .commission ∨ s.node.phase = .mute) → t.catchUp = s.catchUp)) ∧
      t = { s with lanes := t.lanes, filter := t.filter, presence := t.presence, zoneStore := t.zoneStore, heads := t.heads,
                   occupancy := t.occupancy, node := t.node, tx := t.tx, catchUp := t.catchUp, counters := t.counters,
                   events := t.events }

/-- The verdicts of the Duplicate Filter, row by row, and what each leaves in the entry. -/
def Obligations.FilterJudgesByTagAndSequence : Prop :=
  ∀ (L : Lane) (f : Frame) (now : Word32) (up : PerLane Bool) (e : OriginEntry),
    let ahead := (f.startTag - e.startTag).toNat
    let forward := (f.sequence - e.highest).toNat
    let behind := (e.highest - f.sequence).toNat
    let opened : OriginEntry := { e with active := true, startTag := f.startTag, highest := f.sequence, window := 0,
                                         lanesSeen := oneLane L, firstCopy := now }
    (e.active = false → judge L f now up e = (.accepted, opened)) ∧
    (e.active = true → 1 ≤ ahead → ahead ≤ 127 → judge L f now up e = (.restarted, opened)) ∧
    (e.active = true → 128 ≤ ahead → judge L f now up e = (.stale, e)) ∧
    (e.active = true → ahead = 0 → forward = 0 →
      (judge L f now up e).1 = .duplicate ∧
      (e.lanesSeen.get L = true → (judge L f now up e).2 = e) ∧
      (e.lanesSeen.get L = false →
        (judge L f now up e).2 =
          { e with lanesSeen := e.lanesSeen.put L true,
                   worstSkew := BitVec.ofNat 8 (max e.worstSkew.toNat (min 255 (now - e.firstCopy).toNat)) })) ∧
    (e.active = true → ahead = 0 → 1 ≤ forward → forward ≤ 32767 →
      (judge L f now up e).1 = .accepted ∧ (judge L f now up e).2.highest = f.sequence ∧
      (judge L f now up e).2.lanesSeen = oneLane L ∧ (judge L f now up e).2.firstCopy = now ∧
      (∀ k, 1 ≤ k → k ≤ 31 → (judge L f now up e).2.window.getLsbD (k - 1) =
        (decide (k = forward) || (decide (forward < k) && e.window.getLsbD (k - forward - 1)))) ∧
      (judge L f now up e).2.laneMiss.a =
        (if e.lanesSeen = ⟨false, true⟩ ∧ up.a = true then (if e.laneMiss.a = 255 then 255 else e.laneMiss.a + 1) else e.laneMiss.a) ∧
      (judge L f now up e).2.laneMiss.b =
        (if e.lanesSeen = ⟨true, false⟩ ∧ up.b = true then (if e.laneMiss.b = 255 then 255 else e.laneMiss.b + 1) else e.laneMiss.b)) ∧
    (e.active = true → ahead = 0 → 1 ≤ behind → behind ≤ 31 → e.window.getLsbD (behind - 1) = true →
      judge L f now up e = (.duplicate, e)) ∧
    (e.active = true → ahead = 0 → 1 ≤ behind → behind ≤ 31 → e.window.getLsbD (behind - 1) = false →
      (judge L f now up e).1 = .accepted ∧
      (∀ k, 1 ≤ k → k ≤ 31 → (judge L f now up e).2.window.getLsbD (k - 1) = (decide (k = behind) || e.window.getLsbD (k - 1))) ∧
      (judge L f now up e).2 = { e with window := (judge L f now up e).2.window }) ∧
    (e.active = true → ahead = 0 → 32 ≤ behind → behind ≤ 32768 → judge L f now up e = (.stale, e))

/-- Of the copies of one frame at most one is accepted, within one session and under R62's proviso that fewer than 32768 later frames come between: whatever frames of the session are judged between, as long as all their sequences lie in one stretch of 32768, a further copy is not accepted; taken at once it is a duplicate, on either lane. A newer session between the copies is left to R53's row of FilterJudgesByTagAndSequence. -/
def Obligations.RepeatsAreNotAccepted : Prop :=
  (∀ (L M : Lane) (f g : Frame) (now later : Word32) (up up' : PerLane Bool) (e : OriginEntry),
    (judge L f now up e).1.accepts = true → g.startTag = f.startTag → g.sequence = f.sequence →
    (judge M g later up' (judge L f now up e).2).1 = .duplicate) ∧
  (∀ (L M : Lane) (f g : Frame) (now later : Word32) (up up' : PerLane Bool) (e : OriginEntry) (base : Word16)
      (between : List (Lane × Frame × Word32 × PerLane Bool)),
    let first := judge L f now up e
    let last := between.foldl (fun e x => (judge x.1 x.2.1 x.2.2.1 x.2.2.2 e).2) first.2
    first.1.accepts = true → (f.sequence - base).toNat ≤ 32767 → (first.2.highest - base).toNat ≤ 32767 →
    (∀ x ∈ between, x.2.1.startTag = f.startTag ∧ (x.2.1.sequence - base).toNat ≤ 32767) →
    g.startTag = f.startTag → g.sequence = f.sequence →
    (judge M g later up' last).1.accepts = false)

/-! ## The Transmit Queue and the lanes -/

/-- An offered record: with no PENDING copy it is not entered; with room it joins at the newest end under the next sequence; a full queue gives up its newest ROUTINE record with no copy in flight to an URGENT one, and otherwise discards the new record. That the record given up may be of any age, as R86 has it, where the first row of R97 speaks of a younger one, is the model's choice (log 30). -/
def Obligations.OfferedRecordsEnterOrDrop : Prop :=
  ∀ (p : Payload) (stamp : Word32) (s : State),
    let o := offerRecord p stamp s
    (∀ L, (newCopies p.isPresence s).get L =
      (if (s.lanes.get L).state = .up then .pending
       else if (s.lanes.get L).state = .down ∧ p.isPresence = true ∧ s.pins.faultLines.get L = false then .pending else .notUsed)) ∧
    (¬ anyPending p s →
      o.outcome = .notSent ∧ o.state.tx = s.tx ∧
      (p.urgent = true → o.state = countNode .isolatedPublish s) ∧ (p.urgent = false → o.state = s)) ∧
    (anyPending p s → s.tx.records.length < 16 →
      o.outcome = .entered ∧
      o.state = s.setTx { records := s.tx.records ++ [newRecord p stamp s], nextSequence := s.tx.nextSequence + 1 }) ∧
    (anyPending p s → 16 ≤ s.tx.records.length → p.urgent = true →
      ∀ older gone younger, s.tx.records = older ++ gone :: younger → gone.payload.urgent = false → gone.flying = false →
        (∀ r ∈ younger, r.payload.urgent = true ∨ r.flying = true) →
        o.outcome = .entered ∧ o.lostAsk = gone.unsentAsk ∧
        o.state.tx = { records := older ++ younger ++ [newRecord p stamp s], nextSequence := s.tx.nextSequence + 1 } ∧
        o.state.counters = (countNode .txDrop s).counters ∧
        o.state.events.records.txDrop = some (BitVec.ofNat 8 (min 255 ((s.events.records.txDrop.getD 0).toNat + 1)))) ∧
    (anyPending p s → 16 ≤ s.tx.records.length →
      (p.urgent = false ∨ ∀ r ∈ s.tx.records, r.payload.urgent = true ∨ r.flying = true) →
        o.outcome = .dropped ∧ o.state.tx = s.tx ∧ o.state.counters = (countNode .txDrop s).counters ∧
        o.state.events.records.txDrop = some (BitVec.ofNat 8 (min 255 ((s.events.records.txDrop.getD 0).toNat + 1)))) ∧
    o.state = { s with tx := o.state.tx, counters := o.state.counters, events := o.state.events }

/-- COPY_START on a lane that may send and holds no copy in flight: the copy of the oldest URGENT record PENDING on the lane, or else of the oldest ROUTINE one, becomes IN_FLIGHT, and nothing else changes. -/
def Obligations.CopyStartTakesTheOldestOfItsClass : Prop :=
  ∀ (L : Lane) (s : State) (older younger : List TxRecord) (r : TxRecord),
    ((s.lanes.get L).state = .up ∨ ((s.lanes.get L).state = .down ∧ s.pins.faultLines.get L = false)) →
    inFlightOn L s.tx.records = none → s.tx.records = older ++ r :: younger → r.copies.get L = .pending →
    ((r.payload.urgent = true ∧ ∀ q ∈ older, q.payload.urgent = true → q.copies.get L ≠ .pending) ∨
      (r.payload.urgent = false ∧ (∀ q ∈ older, q.copies.get L ≠ .pending) ∧
        ∀ q ∈ younger, q.payload.urgent = true → q.copies.get L ≠ .pending)) →
    exec (.copyStart L) s = .next (s.setTx { s.tx with records := older ++ r.setCopy L .inFlight :: younger })

/-- A lost contest, an echo that never came and an echo of a class other than GOOD each fail the attempt of the lane's copy in flight: TX_CONTENTION is counted, after the class of a bad echo, and below 16 attempts the copy is PENDING again in its place. -/
def Obligations.FailedAttemptReturnsTheCopy : Prop :=
  ∀ (L : Lane) (s : State) (older younger : List TxRecord) (r : TxRecord),
    s.tx.records = older ++ r :: younger → (∀ q ∈ older, q.copies.get L ≠ .inFlight) → r.copies.get L = .inFlight →
    r.attempts.get L < 15 →
    let failed (u : State) : State := (countLane L .txContention u).setTx { s.tx with
      records := older ++ { r with copies := r.copies.put L .pending, attempts := r.attempts.put L (r.attempts.get L + 1) } :: younger }
    exec (.contestLost L) s = .next (failed s) ∧ exec (.copyEndNothingTakenBack L) s = .next (failed s) ∧
    (∀ (bytes : List Byte) (c : LaneCounter), laneReceives L s = true → badClass bytes c →
      exec (.frameReceived L bytes) s = .next (failed (countLane L c s)))

/-- The sixteenth failed attempt ABANDONS the copy, whether it lost a contest, nothing came back, or a bad echo came back. On an UP lane it is the first or the second abandon in a row; the second takes the lane DOWN, and every copy waiting on it is ABANDONED with it, each counted. The probe of a DOWN lane is ABANDONED and leaves its lane as it is. A SYNC_ASK that leaves so with no copy SENT is then reported failed, and the asker acts on it (WindowExpiryEntersRunning); nothing else is. -/
def Obligations.SixteenthFailureAbandons : Prop :=
  ∀ (L : Lane) (s : State) (older younger : List TxRecord) (r : TxRecord), QueueSound s →
    s.tx.records = older ++ r :: younger → r.copies.get L = .inFlight → r.attempts.get L = 15 →
    let left : TransmitQueue := { s.tx with records := older ++
      (if (r.copies.get L.other).live then [{ r.setCopy L .abandoned with attempts := r.attempts.put L 16 }] else []) ++ younger }
    (∀ (bytes : List Byte) (c : LaneCounter), laneReceives L s = true → badClass bytes c →
      exec (.frameReceived L bytes) s = exec (.contestLost L) (countLane L c s)) ∧
    let failed : Nat :=
      if (s.lanes.get L).state = .up ∧ 1 ≤ (s.lanes.get L).abandons then s.tx.records.countP (askDiesOn L)
      else if askDiesOn L r = true then 1 else 0
    ∃ t, exec (.contestLost L) s = .next (askFailed^[failed] t) ∧ exec (.copyEndNothingTakenBack L) s = .next (askFailed^[failed] t) ∧
      t.counters.live[laneIndex L .txContention] = oneMore s.counters.live[laneIndex L .txContention] ∧
      t.lanes.get L.other = s.lanes.get L.other ∧
      ((s.lanes.get L).state = .up → (s.lanes.get L).abandons = 0 →
        t.lanes.get L = { state := .up, abandons := 1 } ∧
        t.counters.live[laneIndex L .txAbandoned] = oneMore s.counters.live[laneIndex L .txAbandoned] ∧
        t.tx = left) ∧
      ((s.lanes.get L).state = .up → (s.lanes.get L).abandons = 1 →
        t.lanes.get L = { state := .down, abandons := 0 } ∧ t.events.records.laneDown = andLane s.events.records.laneDown L ∧
        t.tx = { s.tx with records :=
          ((older ++ { r.setCopy L .abandoned with attempts := r.attempts.put L 16 } :: younger).map
              (fun q => if q.copies.get L = .pending then q.setCopy L .abandoned else q)).filter (fun q => (q.copies.get L.other).live) } ∧
        t.counters.live[laneIndex L .txAbandoned].toNat =
          min maxWord.toNat (s.counters.live[laneIndex L .txAbandoned].toNat + 1 + s.tx.records.countP (fun q => q.copies.get L == .pending))) ∧
      ((s.lanes.get L).state = .down →
        t.lanes = s.lanes ∧ t.events.records.laneDown = s.events.records.laneDown ∧
        t.counters.live[laneIndex L .txAbandoned] = oneMore s.counters.live[laneIndex L .txAbandoned] ∧
        t.tx = left) ∧
      t = { s with lanes := t.lanes, tx := t.tx, counters := t.counters, events := t.events }

/-- A fault line rising on an UP lane takes it DOWN: LANE_DOWN is raised, every live copy of the lane is ABANDONED and counted, and the records then at rest leave. On a DOWN lane the probe in flight alone is ABANDONED and counted, and a PENDING probe stays. Nothing else of the node changes, but that a SYNC_ASK that leaves so with no copy SENT is then reported failed, and the asker acts on it (WindowExpiryEntersRunning); on a DISABLED lane the line moves alone. -/
def Obligations.FaultLineTakesTheLaneDown : Prop :=
  ∀ (L : Lane) (s : State), QueueSound s → s.pins.faultLines.get L = false →
    ((s.lanes.get L).state = .up →
      ∃ t, exec (.laneFaultAssert L) s = .next (askFailed^[s.tx.records.countP (askDiesOn L)] t) ∧
        t.pins = { s.pins with faultLines := s.pins.faultLines.put L true } ∧
        t.lanes = s.lanes.put L { state := .down, abandons := 0 } ∧
        t.events.records.laneDown = andLane s.events.records.laneDown L ∧
        t.tx = { s.tx with records := (s.tx.records.map (fun r => if (r.copies.get L).live then r.setCopy L .abandoned else r)).filter
                                        (fun r => (r.copies.get L.other).live) } ∧
        t.counters.live[laneIndex L .txAbandoned].toNat =
          min maxWord.toNat (s.counters.live[laneIndex L .txAbandoned].toNat + s.tx.records.countP (fun r => (r.copies.get L).live)) ∧
        (∀ i : Fin 28, i ≠ laneIndex L .txAbandoned → t.counters.live[i] = s.counters.live[i]) ∧
        t = { s with pins := t.pins, lanes := t.lanes, tx := t.tx, counters := t.counters, events := t.events }) ∧
    ((s.lanes.get L).state = .down →
      ∃ t, exec (.laneFaultAssert L) s = .next t ∧
        t.pins = { s.pins with faultLines := s.pins.faultLines.put L true } ∧
        t.events.records.laneDown = s.events.records.laneDown ∧
        t.tx = { s.tx with records := (s.tx.records.map (fun r => if r.copies.get L = .inFlight then r.setCopy L .abandoned else r)).filter
                                        TxRecord.live } ∧
        (∀ i : Fin 28, t.counters.live[i] =
          if i = laneIndex L .txAbandoned ∧ (∃ r ∈ s.tx.records, r.copies.get L = .inFlight) then oneMore s.counters.live[i]
          else s.counters.live[i]) ∧
        t = { s with pins := t.pins, tx := t.tx, counters := t.counters, events := t.events }) ∧
    ((s.lanes.get L).state = .disabled →
      exec (.laneFaultAssert L) s = .next (s.setPins { s.pins with faultLines := s.pins.faultLines.put L true }))

/-! ## Peers and presence -/

/-- PRESENCE_EXPIRY, taken while the timer runs, which then first comes to its end (log 3): the next interval starts, every record ages, PEER_LOST names those that became LOST, and PRESENCE is offered in LISTEN, CATCH_UP and RUNNING unless one is queued; the second expiry in LISTEN ends it (counted as in log 22): CATCH_UP is entered with the retry flag clear and a SYNC_ASK for every zone, with the clock as its stamp, entered after the PRESENCE; with no lane UP or a full queue neither it nor its one retry is entered, and RUNNING is entered incomplete. A record ages by its state and counts. (Without a checksum the model announces 0, log 16.) -/
def Obligations.PresenceExpiryAgesAndAnnounces : Prop :=
  (∀ s : State, s.presence.timer ≠ .stopped →
      let u := expiryOf s.presence.timer s
      ∃ t, exec .presenceExpiry s = .next t ∧
        t.presence.timer = .running s.presence.interval ∧ t.presence.interval = s.presence.interval ∧
        (∀ n : Station, t.presence.peers[n] = agePeer s.presence.peers[n]) ∧
        (∀ n : Station, inSet (t.events.records.peerLost.getD 0) n =
          (inSet (s.events.records.peerLost.getD 0) n ||
            (s.presence.peers[n].state == .silent && (agePeer s.presence.peers[n]).state == .lost))) ∧
        ((s.node.phase = .commission ∨ s.node.phase = .mute) → t.tx = s.tx ∧ t.node = s.node) ∧
        (∀ announced, s.node.phase.announced = some announced → (s.node.phase ≠ .listen ∨ s.node.listenExpiries = 0) →
          t.tx = (if s.tx.records.any (fun r => r.payload.isPresence && r.live) then s.tx
                  else (offerRecord (.presence (s.zoneStore.checksum.getD 0) announced s.catchUp.incomplete (fewLanes s))
                          s.zoneStore.clock s).state.tx) ∧
          t.node = { s.node with listenExpiries := if s.node.phase = .listen then 1 else s.node.listenExpiries } ∧
          t.catchUp = u.catchUp) ∧
        (s.node.phase = .listen → s.node.listenExpiries = 1 →
          let presented := if s.tx.records.any (fun r => r.payload.isPresence && r.live) then s.tx
            else (offerRecord (.presence (s.zoneStore.checksum.getD 0) .listen s.catchUp.incomplete (fewLanes s)) s.zoneStore.clock s).state.tx
          let ask : TxRecord := { payload := .syncAsk (BitVec.allOnes 32), startTag := s.node.startTag, sequence := presented.nextSequence,
                                  stamp := s.zoneStore.clock, copies := newCopies false s, attempts := ⟨0, 0⟩ }
          let goesOut := ((s.lanes.a).state = .up ∨ (s.lanes.b).state = .up) ∧ presented.records.length < 16
          (goesOut →
            t.node = { s.node with phase := .catchUp, listenExpiries := 2 } ∧
            t.catchUp = { u.catchUp with asker := .asking, retry := false, window := .stopped } ∧
            t.tx = { records := presented.records ++ [ask], nextSequence := presented.nextSequence + 1 }) ∧
          (¬ goesOut →
            t.node = { s.node with phase := .running, listenExpiries := 2 } ∧
            t.catchUp = { u.catchUp with asker := .finished, retry := true, window := .stopped, held := [], incomplete := true } ∧
            t.events.records.catchUpDone = some .incomplete)) ∧
        t.pins = s.pins ∧ t.lanes = s.lanes ∧ t.filter = u.filter ∧ t.inputs = u.inputs ∧ t.store = u.store ∧ t.port = s.port) ∧
  (∀ r : PeerRecord,
      ((r.state = .absent ∨ r.state = .self) → agePeer r = r) ∧
      ((r.state = .present ∨ r.state = .silent ∨ r.state = .lost) →
        (agePeer r).sinceHeard = min 8 (r.sinceHeard + 1) ∧
        (agePeer r).sinceLane = ⟨min 3 (r.sinceLane.a + 1), min 3 (r.sinceLane.b + 1)⟩ ∧
        agePeer r = { r with state := (agePeer r).state, sinceHeard := (agePeer r).sinceHeard, sinceLane := (agePeer r).sinceLane }) ∧
      (r.state = .present → r.sinceHeard ≤ 1 → (agePeer r).state = .present) ∧
      (r.state = .present → r.sinceHeard = 2 → (agePeer r).state = .silent) ∧
      (r.state = .silent → 3 ≤ r.sinceHeard → r.sinceHeard ≤ 6 → (agePeer r).state = .silent) ∧
      (r.state = .silent → r.sinceHeard = 7 → (agePeer r).state = .lost) ∧
      (r.state = .lost → (agePeer r).state = .lost))

/-- An accepted PRESENCE overwrites the announced fields of its origin's record, a SELF record's too (R78; log 28), and decides the library mismatch flag, raising LIBRARY_MISMATCH when the flag goes from clear to set. FRAME_RECEIVED of an accepted PRESENCE of a peer leaves just that announcement in its record. -/
def Obligations.AcceptedPresenceIsStored : Prop :=
  ∀ (f : Frame) (checksum : Word16) (phase : AnnouncedPhase) (incomplete singleLane : Bool) (s : State),
    f.payload = .presence checksum phase incomplete singleLane →
    let t := acceptFrame f s
    let r := s.presence.peers[f.origin]
    let differs := decide (s.zoneStore.checksum ≠ some checksum)
    (∀ n : Station, t.presence.peers[n] =
      if n = f.origin then
        { r with checksum := checksum, phase := some phase, incomplete := incomplete, singleLane := singleLane, clock := f.stamp,
                 mismatch := differs }
      else s.presence.peers[n]) ∧
    t.events.records.libraryMismatch =
      (if differs = true ∧ r.mismatch = false then andOne s.events.records.libraryMismatch f.origin
       else s.events.records.libraryMismatch) ∧
    t.zoneStore = { s.zoneStore with clock := t.zoneStore.clock } ∧
    t.zoneStore.clock.toNat = max s.zoneStore.clock.toNat f.stamp.toNat ∧
    t = { s with presence := t.presence, zoneStore := t.zoneStore, events := t.events } ∧
    (∀ (L : Lane) (bytes : List Byte), AcceptedFrom L bytes f s →
      ∃ v, exec (.frameReceived L bytes) s = .next v ∧
        v.presence.peers[f.origin].announcement = t.presence.peers[f.origin].announcement ∧
        (∀ n : Station, n ≠ f.origin → v.presence.peers[n] = s.presence.peers[n]) ∧
        v.events.records.libraryMismatch = t.events.records.libraryMismatch ∧ v.zoneStore = t.zoneStore ∧
        v.heads = s.heads ∧ v.occupancy = s.occupancy ∧ v.catchUp = s.catchUp ∧ v.tx = s.tx ∧ v.node = s.node)

/-! ## Catch-up and the Held List -/

/-- The ends of the catch-up. The window's expiry, taken while the window runs, which then first comes to its end (log 3), enters RUNNING complete: CATCH_UP_DONE, then the PRESENCE announcing RUNNING (checksum 0 without one, log 16), then the release of the Held List, in that order; that the whole release lies inside this one step, with no frame taken between, is the model's choice (log 31). A failed ask is retried once, at once, with the clock of that moment; a retry that is not entered, or fails later, enters RUNNING incomplete in the same order. A report with the asker not ASKING changes nothing. An ask whose last copy fails its sixteenth attempt is such a failed ask. -/
def Obligations.WindowExpiryEntersRunning : Prop :=
  (∀ s : State, s.catchUp.window ≠ .stopped →
    let u := expiryOf s.catchUp.window s
    ∃ t, exec .catchUpWindowExpiry s = .next t ∧
      t.node = { s.node with phase := .running } ∧
      t.catchUp = { u.catchUp with asker := .finished, window := .stopped, held := [] } ∧
      t.events.records.catchUpDone = some .complete ∧
      (s.catchUp.held = [] →
        t.tx = (if s.tx.records.any (fun r => r.payload.isPresence && r.live) then s.tx
                else (offerRecord (.presence (s.zoneStore.checksum.getD 0) .running s.catchUp.incomplete (fewLanes s))
                        s.zoneStore.clock s).state.tx) ∧
        t.zoneStore = s.zoneStore ∧ t.occupancy = u.occupancy ∧ t.heads = u.heads) ∧
      t = releaseHeld (createPresence (raise (.catchUpDone .complete)
        ((u.setCatchUp { u.catchUp with asker := .finished, window := .stopped }).setNode { u.node with phase := .running }))) ∧
      t = { u with node := t.node, catchUp := t.catchUp, zoneStore := t.zoneStore, heads := t.heads, occupancy := t.occupancy,
                   tx := t.tx, counters := t.counters, events := t.events }) ∧
  (∀ s : State,
    let entered (u : State) : State := releaseHeld (createPresence (raise (.catchUpDone .incomplete)
      ((u.setCatchUp { u.catchUp with asker := .finished, window := .stopped, incomplete := true }).setNode { u.node with phase := .running })))
    let retried := offerRecord (.syncAsk (BitVec.allOnes 32)) s.zoneStore.clock (s.setCatchUp { s.catchUp with retry := true })
    (s.catchUp.asker ≠ .asking → askFailed s = s) ∧
    (s.catchUp.asker = .asking → s.catchUp.retry = true → askFailed s = entered s) ∧
    (s.catchUp.asker = .asking → s.catchUp.retry = false → retried.outcome ≠ .entered → askFailed s = entered retried.state) ∧
    (s.catchUp.asker = .asking → s.catchUp.retry = false → retried.outcome = .entered →
      askFailed s = retried.state ∧ (askFailed s).catchUp = { s.catchUp with retry := true } ∧
      ∃ r, r.payload = .syncAsk (BitVec.allOnes 32) ∧ r.stamp = s.zoneStore.clock ∧ (askFailed s).tx.records = s.tx.records ++ [r])) ∧
  (∀ (L : Lane) (s : State) (older younger : List TxRecord) (r : TxRecord), QueueSound s →
    s.tx.records = older ++ r :: younger → r.payload.isAsk = true → r.copies.get L = .inFlight → r.attempts.get L = 15 →
    (r.copies.get L.other = .abandoned ∨ r.copies.get L.other = .notUsed) →
    (s.lanes.get L).state = .up → (s.lanes.get L).abandons = 0 →
    exec (.contestLost L) s = .next (askFailed
      (((countLane L .txAbandoned (countLane L .txContention s)).setLanes (s.lanes.put L { state := .up, abandons := 1 })).setTx
        { s.tx with records := older ++ younger })))

/-- The responder gathers, in RUNNING alone, the wanted zones that this node holds, and starts its back-off of (own station + 1) times 4 ms (station 0 without one, log 16). The entries of an accepted SYNC_ENTRY are merged in order by the merge rule, each as a setting of its own, and nothing else reaches the zones, the heads, the counters and the events; it strikes exactly the pending zones of which it carries a pair not lower than the own entry as it stands after the merge; an empty set stops the timer. FRAME_RECEIVED of an accepted SYNC_ASK or SYNC_ENTRY of a peer has just these effects on the Zone Store, the heads and the Catch-Up Unit. -/
def Obligations.ResponderCollectsAndStrikes : Prop :=
  (∀ (f : Frame) (wanted : ZoneSet) (s : State), f.payload = .syncAsk wanted →
      let t := acceptFrame f s
      (s.node.phase ≠ .running → t.catchUp = s.catchUp) ∧
      (s.node.phase = .running →
        (∀ z : Zone, inSet t.catchUp.answers z =
          (inSet s.catchUp.answers z || (inSet wanted z && s.zoneStore.table[z].isSome))) ∧
        (t.catchUp.answers ≠ 0 → s.catchUp.backoff = .stopped →
          t.catchUp.backoff = .running (((s.node.station.getD 0).val + 1) * 4 * 10)) ∧
        (t.catchUp.answers = 0 ∨ s.catchUp.backoff ≠ .stopped → t.catchUp.backoff = s.catchUp.backoff) ∧
        t.catchUp = { s.catchUp with answers := t.catchUp.answers, backoff := t.catchUp.backoff }) ∧
      t = { s with zoneStore := t.zoneStore, catchUp := t.catchUp }) ∧
  (∀ (f : Frame) (entries : List SyncEntry) (s : State), f.payload = .syncEntry entries →
      let t := acceptFrame f s
      t = (entries.foldl (fun u e => merge e.zone e.setting u) (raiseClock f.stamp s)).setCatchUp t.catchUp ∧
      (∀ z : Zone, inSet t.catchUp.answers z = true ↔
        inSet s.catchUp.answers z = true ∧
          ∀ e ∈ entries, e.zone = z → ∃ own, t.zoneStore.table[z] = some own ∧ higher own e.setting = true) ∧
      (t.catchUp.answers = 0 → t.catchUp.backoff = .stopped) ∧
      (t.catchUp.answers ≠ 0 → t.catchUp.backoff = s.catchUp.backoff) ∧
      (∀ z : Zone, (∀ e ∈ entries, e.zone ≠ z) → t.zoneStore.table[z] = s.zoneStore.table[z]) ∧
      t.occupancy = s.occupancy ∧ t.tx = s.tx ∧ t.node = s.node) ∧
  (∀ (L : Lane) (bytes : List Byte) (f : Frame) (s : State),
      (∃ wanted, f.payload = .syncAsk wanted) ∨ (∃ entries, f.payload = .syncEntry entries) → AcceptedFrom L bytes f s →
      ∃ t, exec (.frameReceived L bytes) s = .next t ∧
        t.catchUp = (acceptFrame f s).catchUp ∧ t.zoneStore = (acceptFrame f s).zoneStore ∧ t.heads = (acceptFrame f s).heads ∧
        t.events.records.zoneChanged = (acceptFrame f s).events.records.zoneChanged ∧
        t.counters.live[nodeIndex .setSuperseded] = (acceptFrame f s).counters.live[nodeIndex .setSuperseded] ∧
        t.occupancy = s.occupancy ∧ t.tx = s.tx ∧ t.node = s.node)

/-- The back-off's expiry, taken while the timer runs, which then first comes to its end (log 3), offers the pending zones' entries in ascending zone order, four to each record but the last, which holds the remaining one to four, and clears the set. With a lane UP the records enter while the queue has room, the rest being discarded with TX_DROP; with no lane UP none is entered and nothing is counted. -/
def Obligations.BackoffExpiryAnswers : Prop :=
  ∀ s : State, s.catchUp.backoff ≠ .stopped →
    let u := expiryOf s.catchUp.backoff s
    let entries := answerEntries s.zoneStore s.catchUp.answers
    let groups := groupsOfFour entries
    let room := 16 - s.tx.records.length
    groups.flatten = entries ∧
    (∀ group ∈ groups, 1 ≤ group.length ∧ group.length ≤ 4) ∧
    (∀ before last, groups = before ++ [last] → ∀ group ∈ before, group.length = 4) ∧
    entries.Pairwise (fun e e' => e.zone.val < e'.zone.val) ∧
    (∀ (z : Zone) (x : Setting), ({ zone := z, setting := x } : SyncEntry) ∈ entries ↔
      inSet s.catchUp.answers z = true ∧ s.zoneStore.table[z] = some x) ∧
    ∃ t, exec .backoffExpiry s = .next t ∧
      t.catchUp = { u.catchUp with answers := 0, backoff := .stopped } ∧
      (((s.lanes.a).state = .up ∨ (s.lanes.b).state = .up) →
        (∃ added : List TxRecord, t.tx.records = s.tx.records ++ added ∧
          added.map (fun r => (r.payload, r.stamp)) = (groups.take room).map (fun g => (.syncEntry g, s.zoneStore.clock)) ∧
          ∀ r ∈ added, r.copies = newCopies false s ∧ r.attempts = ⟨0, 0⟩ ∧ r.startTag = s.node.startTag) ∧
        t.tx.nextSequence = s.tx.nextSequence + BitVec.ofNat 16 (min room groups.length) ∧
        t.counters.live[nodeIndex .txDrop].toNat =
          min maxWord.toNat (s.counters.live[nodeIndex .txDrop].toNat + (groups.length - room)) ∧
        (groups.length ≤ room → t.counters = s.counters ∧ t.events = s.events) ∧
        (room < groups.length → t.events.records.txDrop =
          some (BitVec.ofNat 8 (min 255 ((s.events.records.txDrop.getD 0).toNat + (groups.length - room)))))) ∧
      ((s.lanes.a).state ≠ .up → (s.lanes.b).state ≠ .up → t = { u with catchUp := t.catchUp }) ∧
      t = { u with catchUp := t.catchUp, tx := t.tx, counters := t.counters, events := t.events }

/-- An OCCUPY request held while one is held merges into it, in its place and with the newer cause, even in a full list; any other request joins the end, or is counted HELD_DROP when 8 are held. The release performs the held requests one after another in list order, on a list already emptied; a SYNC_ASK they displace is reported to no one (log 18). -/
def Obligations.HeldListMergesAndReleases : Prop :=
  (∀ (h : HeldRequest) (zones held : ZoneSet) (cause old : WakeCause) (before after : List HeldRequest) (s : State),
      (s.catchUp.held = before ++ .occupy held old :: after → before.countP HeldRequest.isOccupy = 0 →
        holdRequest (.occupy zones cause) s =
          { state := s.setCatchUp { s.catchUp with held := before ++ .occupy (held ||| zones) cause :: after }, result := .held }) ∧
      ((h.isOccupy = false ∨ s.catchUp.held.countP HeldRequest.isOccupy = 0) →
        (s.catchUp.held.length < 8 →
          holdRequest h s = { state := s.setCatchUp { s.catchUp with held := s.catchUp.held ++ [h] }, result := .held }) ∧
        (8 ≤ s.catchUp.held.length → holdRequest h s = { state := countNode .heldDrop s, result := .heldFull }))) ∧
  ((∀ s : State, s.catchUp.held = [] → releaseHeld s = s) ∧
    (∀ (h : HeldRequest) (rest : List HeldRequest) (s : State), s.catchUp.held = h :: rest →
      releaseHeld s =
        releaseHeld (((performHeld h (s.setCatchUp { s.catchUp with held := [] })).state).setCatchUp { s.catchUp with held := rest })))

/-! ## Occupancy -/

/-- A wake, state by state: FOLLOW is left; OCCUPIED, VACANT and DARK become OCCUPIED with a full grace time and the wake's cause, with OCCUPANCY_CHANGED from VACANT and DARK, and a rise of the factor, with the effective fade code, where the factor was below 100. Nothing is counted. A wake of several zones is one wake a zone, each by its own record, and their OCCUPANCY_CHANGED details unite. (What becomes of the model's own flag `overtaken` is left to OccupancyExpiriesDimAndDarken.) -/
def Obligations.WakesFollowTheTable : Prop :=
  (∀ (cause : WakeCause) (z : Zone) (s : State), s.occupancy.config[z].percent ≤ 100 →
    let t := wake cause z s
    let r := s.occupancy.records[z]
    let rise := (r.state = .vacant ∧ s.occupancy.config[z].percent < 100) ∨ r.state = .dark
    (r.state = .follow → t = s) ∧
    (r.state ≠ .follow →
      t.occupancy = { s.occupancy with records := (update s.occupancy.records z
        { state := .occupied, timer := .running (graceTime s.occupancy.config[z].grace), cause := cause,
          overtaken := t.occupancy.records[z].overtaken }) }) ∧
    (r.state = .occupied → t.events = s.events) ∧
    ((r.state = .vacant ∨ r.state = .dark) →
      t.events = { s.events with records := { s.events.records with occupancyChanged := andOne s.events.records.occupancyChanged z } }) ∧
    (¬ rise → t.heads = s.heads) ∧
    (rise → s.node.phase.headsFollow = true → ∀ ch : Channel,
      (lights s.heads z ch → t.heads.channels[ch] =
        startFade (targetOf (componentOf (effective s.zoneStore z).colour ch) (effective s.zoneStore z).level 100)
          (effective s.zoneStore z).fade s.heads.channels[ch]) ∧
      (s.heads.config[headOf ch].zone ≠ some z → t.heads.channels[ch] = s.heads.channels[ch])) ∧
    t = { s with occupancy := t.occupancy, events := t.events, heads := t.heads }) ∧
  (∀ (cause : WakeCause) (zones : List Zone) (s : State),
    let t := wakeAll cause zones s
    t = zones.foldl (fun u z => wake cause z u) s ∧
    (∀ z : Zone, t.occupancy.records[z] =
      if z ∈ zones then { wokenRecord cause z s with overtaken := t.occupancy.records[z].overtaken } else s.occupancy.records[z]) ∧
    (∀ z : Zone, inSet (t.events.records.occupancyChanged.getD 0) z =
      (inSet (s.events.records.occupancyChanged.getD 0) z ||
        (decide (z ∈ zones) && (s.occupancy.records[z].state == .vacant || s.occupancy.records[z].state == .dark))))) ∧
  (∀ (cause : WakeCause) (zones : ZoneSet) (s : State),
    wakeSet cause zones s = wakeAll cause (members zones) s ∧ (∀ z : Zone, z ∈ members zones ↔ inSet zones z = true))

/-- The expiries are taken while the timer runs, which then first comes to its end (log 3), so that the time base shows all of its time. The grace time's expiry makes an OCCUPIED record VACANT, with the vacant time if there is one; the vacant time's makes it DARK. Each raises OCCUPANCY_CHANGED and hands a fall of the factor to the heads with the vacancy fade code; the cause stays. A wake taken first restarts the grace time: an expiry that was due at that moment does not happen, the record staying OCCUPIED at its full grace time, and the next one comes a full grace time after the wake. -/
def Obligations.OccupancyExpiriesDimAndDarken : Prop :=
  ∀ (z : Zone) (s : State), s.occupancy.config[z].percent ≤ 100 → s.occupancy.records[z].timer ≠ .stopped →
    let cfg := s.occupancy.config[z]
    let r := s.occupancy.records[z]
    let shown := effective s.zoneStore z
    let u := expiryOf r.timer s
    u.filter.timeBase = s.filter.timeBase + BitVec.ofNat 32 r.timer.left ∧
    (r.state = .occupied → r.overtaken = true → exec (.graceExpiry z) s =
      .next (s.setOccupancy { s.occupancy with records := update s.occupancy.records z { r with overtaken := false } })) ∧
    (r.state = .occupied → r.overtaken = false → ∃ t, exec (.graceExpiry z) s = .next t ∧
      t.occupancy = { u.occupancy with records := (update u.occupancy.records z
        { state := .vacant, timer := if cfg.vacant = 0 then .stopped else .running (10 * (120000 * cfg.vacant.val)), cause := r.cause,
          overtaken := false }) } ∧
      t.events = { s.events with records := { s.events.records with occupancyChanged := andOne s.events.records.occupancyChanged z } } ∧
      (cfg.percent = 100 → t.heads = u.heads) ∧
      (cfg.percent < 100 → s.node.phase.headsFollow = true → ∀ ch : Channel, lights s.heads z ch →
        t.heads.channels[ch] = startFade (targetOf (componentOf shown.colour ch) shown.level cfg.percent) cfg.fade s.heads.channels[ch]) ∧
      t = { u with occupancy := t.occupancy, events := t.events, heads := t.heads }) ∧
    (r.state = .vacant → ∃ t, exec (.vacantExpiry z) s = .next t ∧
      t.occupancy = { u.occupancy with records := update u.occupancy.records z { state := .dark, timer := .stopped, cause := r.cause, overtaken := false } } ∧
      t.events = { s.events with records := { s.events.records with occupancyChanged := andOne s.events.records.occupancyChanged z } } ∧
      (cfg.percent = 0 → t.heads = u.heads) ∧
      (0 < cfg.percent → s.node.phase.headsFollow = true → ∀ ch : Channel, lights s.heads z ch →
        t.heads.channels[ch] = startFade 0 cfg.fade s.heads.channels[ch]) ∧
      t = { u with occupancy := t.occupancy, events := t.events, heads := t.heads }) ∧
    (∀ cause : WakeCause, (wake cause z s).occupancy.records[z].overtaken =
      (r.state == .occupied && (r.overtaken || r.timer == .running 0) || r.state == .follow && r.overtaken)) ∧
    (∀ cause : WakeCause, r.state = .occupied → r.timer = .running 0 → exec (.graceExpiry z) (wake cause z s) =
      .next (s.setOccupancy { s.occupancy with records := (update s.occupancy.records z
        { state := .occupied, timer := .running (graceTime cfg.grace), cause := cause, overtaken := false }) })) ∧
    (∀ cause : WakeCause, (r.state = .occupied ∧ r.timer ≠ .running 0 ∧ r.overtaken = false) ∨ r.state = .vacant →
      ∃ t, exec (.graceExpiry z) (wake cause z s) = .next t ∧
        t.filter.timeBase = s.filter.timeBase + BitVec.ofNat 32 (graceTime cfg.grace) ∧ t.occupancy.records[z].state = .vacant ∧
        t.occupancy.records[z].cause = cause)

/-- PUBLISH_OCCUPY: the listed zones are woken with cause PORT in RUNNING, LISTEN, CATCH_UP and MUTE; then the announcement is offered in RUNNING, held as the Held List holds requests in LISTEN and CATCH_UP, and refused in MUTE. COMMISSION and LOADING refuse it whole. The stamp clock never moves. -/
def Obligations.PublishOccupyWakesThenAnnounces : Prop :=
  ∀ (zones : ZoneSet) (s : State), s.port = .opened → zones ≠ 0 →
    (s.node.phase = .running → s.catchUp.asker = .finished →
      let offer := offerRecord (.occupy zones) s.zoneStore.clock s
      ∃ t, exec (.publishOccupy zones) s = .next t ∧
        (∀ z : Zone, t.occupancy.records[z] = if inSet zones z = true then wokenRecord .port z s else s.occupancy.records[z]) ∧
        t.occupancy.config = s.occupancy.config ∧
        t.tx = offer.state.tx ∧ t.port = .answered [offer.outcome.result.byte] false ∧
        t = { s with occupancy := t.occupancy, heads := t.heads, tx := t.tx, counters := t.counters, events := t.events, port := t.port }) ∧
    ((s.node.phase = .listen ∨ s.node.phase = .catchUp) → s.catchUp.held.length < 8 → s.catchUp.held.countP HeldRequest.isOccupy = 0 →
      ∃ t, exec (.publishOccupy zones) s = .next t ∧
        (∀ z : Zone, t.occupancy.records[z] = if inSet zones z = true then wokenRecord .port z s else s.occupancy.records[z]) ∧
        t.catchUp = { s.catchUp with held := s.catchUp.held ++ [.occupy zones .port] } ∧ t.port = .answered [1] false ∧
        t = { s with occupancy := t.occupancy, heads := t.heads, catchUp := t.catchUp, events := t.events, port := t.port }) ∧
    ((s.node.phase = .listen ∨ s.node.phase = .catchUp) →
      let held := holdRequest (.occupy zones .port) (wakeSet .port zones s)
      exec (.publishOccupy zones) s = .next (held.state.setPort (.answered [held.result.byte] false)) ∧
      held.state.zoneStore = s.zoneStore ∧ held.state.tx = s.tx ∧
      (∀ z : Zone, held.state.occupancy.records[z] = if inSet zones z = true then wokenRecord .port z s else s.occupancy.records[z])) ∧
    (s.node.phase = .mute →
      exec (.publishOccupy zones) s = .next (answeredWith .muted (wakeSet .port zones s)) ∧
      (wakeSet .port zones s).zoneStore = s.zoneStore ∧
      (∀ z : Zone, (wakeSet .port zones s).occupancy.records[z] =
        if inSet zones z = true then wokenRecord .port z s else s.occupancy.records[z])) ∧
    ((s.node.phase = .commission ∨ s.node.phase = .loading) → exec (.publishOccupy zones) s = .next (answeredWith .refusedPhase s))

/-! ## Inputs -/

/-- A line's change of level: where the line is followed it starts the debounce timer on leaving the debounced level and stops it on coming back; elsewhere only the line moves. -/
def Obligations.LevelChangesAreDebounced : Prop :=
  ∀ (line : Line) (high : Bool) (s : State), s.pins.inputLines[line] ≠ high →
    let cfg := s.inputs.config[line]
    let r := s.inputs.records[line]
    let moved := s.setPins { s.pins with inputLines := update s.pins.inputLines line high }
    let put (x : InputRecord) : State := moved.setInputs { s.inputs with records := update s.inputs.records line x }
    ((s.node.phase = .loading ∨ s.node.phase = .commission ∨ cfg.kind = .unused) → exec (.inputLevelChange line high) s = .next moved) ∧
    (s.node.phase ≠ .loading → s.node.phase ≠ .commission → cfg.kind ≠ .unused →
      ((if cfg.activeLow then !high else high) = r.active →
        exec (.inputLevelChange line high) s = .next (put { r with debounce := .stopped })) ∧
      ((if cfg.activeLow then !high else high) ≠ r.active →
        exec (.inputLevelChange line high) s = .next (put { r with debounce := .running (10 * (2 * 4 ^ cfg.debounce.val)) })))

/-- The debounce timer's expiry, taken while the timer runs, which then first comes to its end (log 3), settles the level. A release stops the repeat and refresh timers and asks for nothing; an activation starts the timer of the input's kind and makes its request. -/
def Obligations.DebounceExpirySettlesTheLevel : Prop :=
  ∀ (line : Line) (s : State), s.inputs.records[line].debounce ≠ .stopped →
    let u := expiryOf s.inputs.records[line].debounce s
    let cfg := s.inputs.config[line]
    let r := u.inputs.records[line]
    let sensed : Bool := if cfg.activeLow then !s.pins.inputLines[line] else s.pins.inputLines[line]
    let put (x : InputRecord) : State := u.setInputs { u.inputs with records := update u.inputs.records line x }
    (sensed = r.active → exec (.debounceExpiry line) s = .next (put { r with debounce := .stopped })) ∧
    (sensed = false → r.active = true →
      exec (.debounceExpiry line) s = .next (put { active := false, debounce := .stopped, repeating := .stopped, refresh := .stopped })) ∧
    (sensed = true → r.active = false →
      (cfg.kind = .unused → exec (.debounceExpiry line) s = .next (put { r with active := true, debounce := .stopped })) ∧
      (∀ z, cfg.kind = .sensor z → exec (.debounceExpiry line) s =
        .next (requestOccupy (oneOf z) .localSensor (put { r with active := true, debounce := .stopped, refresh := .running 200000 })).state) ∧
      (∀ k, cfg.kind = .recall k → exec (.debounceExpiry line) s =
        .next (requestByPhase (.recall k true .switch) (put { r with active := true, debounce := .stopped })).state) ∧
      (∀ a z n, cfg.kind = .action a z n → (a = .off ∨ a = .toggle) → exec (.debounceExpiry line) s =
        .next (requestByPhase (.action a z n) (put { r with active := true, debounce := .stopped })).state) ∧
      (∀ a z n, cfg.kind = .action a z n → (a = .raise ∨ a = .lower) → exec (.debounceExpiry line) s =
        .next (requestByPhase (.action a z n) (put { r with active := true, debounce := .stopped, repeating := .running 5000 })).state))

/-- The repeat of a held RAISE or LOWER and the refresh of an active SENSOR, taken while their timers run, which then first come to their end (log 3), restart their timers and make the request again. What a request of an input does goes by phase: an action or a RECALL is held, in its turn, in LISTEN and CATCH_UP, counted HELD_DROP when 8 are held, without trace in MUTE, and performed in RUNNING with wake and cause SWITCH, an action as the SET built from the zone's effective setting as it stands; an OCCUPY wakes its zone with cause LOCAL_SENSOR in all four and is announced, held or refused. An exhausted clock sets the CLOCK_EXHAUSTED flag alone. (Without a station the model writes 0, log 16.) -/
def Obligations.RepeatsAndRefreshesAskAgain : Prop :=
  (∀ (line : Line) (s : State),
      let again (timer : Timer) (f : InputRecord → InputRecord) : State :=
        let u := expiryOf timer s
        u.setInputs { u.inputs with records := update u.inputs.records line (f u.inputs.records[line]) }
      let r := s.inputs.records[line]
      (∀ a z n, s.inputs.config[line].kind = .action a z n → r.repeating ≠ .stopped →
        exec (.repeatExpiry line) s =
          .next (requestByPhase (.action a z n) (again r.repeating (fun x => { x with repeating := .running 5000 }))).state) ∧
      (∀ z, s.inputs.config[line].kind = .sensor z → r.refresh ≠ .stopped →
        exec (.refreshExpiry line) s =
          .next (requestOccupy (oneOf z) .localSensor (again r.refresh (fun x => { x with refresh := .running 200000 }))).state)) ∧
  (∀ (z : Zone) (n : Nat) (s : State),
      let shown := effective s.zoneStore z
      let d := s.zoneStore.defaults[z]
      performAction .off z n s = performSet z shown.colour 0 d.switchFade true .switch s ∧
      performAction .toggle z n s = performSet z shown.colour (if shown.level = 0 then d.level else 0) d.switchFade true .switch s ∧
      performAction .raise z n s = performSet z shown.colour (BitVec.ofNat 8 (min 255 (shown.level.toNat + n))) 2 true .switch s ∧
      performAction .lower z n s = performSet z shown.colour (BitVec.ofNat 8 (shown.level.toNat - n)) 2 true .switch s) ∧
  (∀ (h : HeldRequest) (s : State), ((∃ a z n, h = .action a z n) ∨ ∃ look, h = .recall look true .switch) →
      ((s.node.phase = .listen ∨ s.node.phase = .catchUp) →
        (requestByPhase h s).state =
          (if s.catchUp.held.length < 8 then s.setCatchUp { s.catchUp with held := s.catchUp.held ++ [h] } else countNode .heldDrop s)) ∧
      ((s.node.phase = .mute ∨ s.node.phase = .commission ∨ s.node.phase = .loading) → (requestByPhase h s).state = s)) ∧
  (∀ s : State, s.node.phase = .running → s.catchUp.asker = .finished →
      let stamp := s.zoneStore.clock + 1
      let exhausted := s.setZoneStore { s.zoneStore with exhausted := true }
      (∀ a z n, (requestByPhase (.action a z n) s).state = (performAction a z n s).state) ∧
      (∀ (z : Zone) (colour : Colour) (level : Byte) (fade : FadeCode),
        let done := (performSet z colour level fade true .switch s).state
        let x : Setting := { colour := colour, level := level, fade := fade, stamp := stamp, origin := s.node.station.getD 0, source := .set }
        (s.zoneStore.clock = maxWord → done = exhausted) ∧
        (s.zoneStore.clock ≠ maxWord → ClockSound s →
          done.zoneStore = { s.zoneStore with clock := stamp, table := update s.zoneStore.table z (some x) } ∧
          done.occupancy = { s.occupancy with records := update s.occupancy.records z (wokenRecord .switch z s) } ∧
          done.tx = (offerRecord (.set z colour level fade true) stamp s).state.tx ∧
          done = { s with zoneStore := done.zoneStore, heads := done.heads, occupancy := done.occupancy, tx := done.tx,
                          counters := done.counters, events := done.events })) ∧
      (∀ look : Look,
        let done := (requestByPhase (.recall look true .switch) s).state
        (lookSettings s.zoneStore look = [] → done = s) ∧
        (lookSettings s.zoneStore look ≠ [] → s.zoneStore.clock = maxWord → done = exhausted) ∧
        (lookSettings s.zoneStore look ≠ [] → s.zoneStore.clock ≠ maxWord → ClockSound s → (lookZones s.zoneStore look).Nodup →
          done.zoneStore = { s.zoneStore with clock := stamp, table := done.zoneStore.table } ∧
          (∀ p ∈ lookSettings s.zoneStore look, done.zoneStore.table[p.zone] =
            some { colour := p.colour, level := p.level, fade := p.fade, stamp := stamp, origin := s.node.station.getD 0,
                   source := .recall look }) ∧
          (∀ z : Zone, z ∉ lookZones s.zoneStore look → done.zoneStore.table[z] = s.zoneStore.table[z]) ∧
          (∀ z : Zone, done.occupancy.records[z] =
            if z ∈ lookZones s.zoneStore look then wokenRecord .switch z s else s.occupancy.records[z]) ∧
          done.tx = (offerRecord (.recall look (s.zoneStore.checksum.getD 0) true) stamp s).state.tx ∧
          done = { s with zoneStore := done.zoneStore, heads := done.heads, occupancy := done.occupancy, tx := done.tx,
                          counters := done.counters, events := done.events }))) ∧
  (∀ (z : Zone) (s : State),
      let asked := (requestOccupy (oneOf z) .localSensor s).state
      (s.node.phase = .running → s.catchUp.asker = .finished →
        asked.occupancy = { s.occupancy with records := update s.occupancy.records z (wokenRecord .localSensor z s) } ∧
        asked.tx = (offerRecord (.occupy (oneOf z)) s.zoneStore.clock s).state.tx ∧
        asked = { s with occupancy := asked.occupancy, heads := asked.heads, tx := asked.tx, counters := asked.counters,
                         events := asked.events }) ∧
      ((s.node.phase = .listen ∨ s.node.phase = .catchUp) →
        asked = (holdRequest (.occupy (oneOf z) .localSensor) (wake .localSensor z s)).state) ∧
      (s.node.phase = .mute → asked = wake .localSensor z s) ∧
      ((s.node.phase = .commission ∨ s.node.phase = .loading) → asked = s))

/-! ## Heads -/

/-- The target is the floor of the exact quotient; it lies in 0..4095, is 4095 only at full colour, level and factor, and 0 when any of the three is 0. -/
def Obligations.TargetIsTheFlooredQuotient : Prop :=
  (∀ (c l : Byte) (f : Nat), f ≤ 100 →
    255 * 255 * 100 * targetOf c l f ≤ c.toNat * l.toNat * f * 4095 ∧
    c.toNat * l.toNat * f * 4095 < 255 * 255 * 100 * (targetOf c l f + 1) ∧
    targetOf c l f ≤ 4095 ∧
    (targetOf c l f = 4095 ↔ c = 255 ∧ l = 255 ∧ f = 100) ∧
    ((c = 0 ∨ l = 0 ∨ f = 0) → targetOf c l f = 0)) ∧
  targetOf 200 128 40 = 644 ∧ targetOf 200 128 100 = 1612 ∧ targetOf 200 128 30 = 483 ∧ targetOf 200 200 100 = 2519 ∧
  targetOf 160 128 100 = 1289 ∧ targetOf 120 128 100 = 967

/-- Taken while their timing runs, which then first comes to its end (log 3), a tick moves each fading channel by the difference over its remaining ticks, truncated toward zero, and its duty buffer with it; a period start gives each output its channel's buffer; neither changes anything else. During a period of P an output with duty value d is high, from the period's start, while d / 4095 of P has not yet passed, for all of it at 4095 and never at 0, nor before the first period. -/
def Obligations.TicksStepChannelsAndPeriodsShowThem : Prop :=
  (∀ s : State,
    (s.heads.fadeTick ≠ .stopped →
      let u := expiryOf s.heads.fadeTick s
      ∃ t, exec .fadeTick s = .next t ∧
      (∀ ch : Channel,
        (s.heads.channels[ch].remaining = 0 → t.heads.channels[ch] = s.heads.channels[ch]) ∧
        (1 ≤ s.heads.channels[ch].remaining →
          (t.heads.channels[ch].current : Int) = max 0 ((s.heads.channels[ch].current : Int) +
            ((s.heads.channels[ch].target : Int) - s.heads.channels[ch].current).tdiv s.heads.channels[ch].remaining) ∧
          t.heads.channels[ch].remaining = s.heads.channels[ch].remaining - 1 ∧
          t.heads.channels[ch].target = s.heads.channels[ch].target ∧
          t.heads.channels[ch].buffer = t.heads.channels[ch].current)) ∧
      t.heads = { u.heads with channels := t.heads.channels, fadeTick := .running 100 } ∧
      t = { u with heads := t.heads }) ∧
    (s.heads.period ≠ .stopped →
      let u := expiryOf s.heads.period s
      ∃ t, exec .pwmPeriodStart s = .next t ∧
      (∀ ch : Channel, t.heads.outputs[ch] = s.heads.channels[ch].buffer) ∧
      t.heads = { u.heads with outputs := t.heads.outputs, period := .running (40 / 2 ^ s.heads.rate.val) } ∧
      t = { u with heads := t.heads })) ∧
  (∀ (h : HeadUnit) (ch : Channel),
    let whole := 40 / 2 ^ h.rate.val
    (h.period = .stopped → outputHigh h ch = false) ∧
    (∀ left, h.period = .running left →
      (h.outputs[ch] = 0 → outputHigh h ch = false) ∧
      (h.outputs[ch] = 4095 → outputHigh h ch = true) ∧
      (h.outputs[ch] < 4095 → (outputHigh h ch = true ↔ (whole - left) * 4095 < h.outputs[ch] * whole))))

/-- A fade of n ticks lands on its target at the n-th tick, and on the way the current value never leaves the span between where it was and the target. -/
def Obligations.FadesLandOnTheirTargets : Prop :=
  ∀ (c : ChannelRecord) (k : Nat), 1 ≤ c.remaining →
    (fadeStep^[c.remaining] c).current = c.target ∧ (fadeStep^[c.remaining] c).remaining = 0 ∧
    min c.current c.target ≤ (fadeStep^[k] c).current ∧ (fadeStep^[k] c).current ≤ max c.current c.target

/-! ## Resets and LOADING -/

/-- POWER_ON with the RESET line released (also with the supply up: log 7) leaves every block at its reset values with LOADING begun, kind POWER_ON and the SETUP line sampled. With the line asserted the node is held at its reset values with kind POWER_ON, and LOADING is not begun (the kind there is the model's choice, log 32). Loss of supply holds the node. In each case the array keeps its bytes but for a byte whose write was cut off, which holds 0xFF. The model's choices: the outside lines stay (log 5), the time base starts at 0 (log 6), an unpowered node shows the reset values (log 20). -/
def Obligations.SupplyResetsTheNode : Prop :=
  ∀ s : State, StoreWf s →
    (s.pins.resetLine = false → ∃ t, exec .powerOn s = .next t ∧
      t = { State.reset with
              pins := { s.pins with supply := true }, pending := s.pending,
              node := { State.reset.node with setupSample := s.pins.setupLine },
              store := { State.reset.store with array := t.store.array } } ∧
      ∀ a, Memory.read t.store.array a = (match s.store.write with
        | .writing b _ _ => if a = b.val then 0xFF#8 else Memory.read s.store.array a
        | .idle => Memory.read s.store.array a)) ∧
    (s.pins.resetLine = true → ∃ t, exec .powerOn s = .next t ∧
      t = { State.reset with
              pins := { s.pins with supply := true }, pending := s.pending,
              node := { State.reset.node with loading := .held },
              store := { State.reset.store with array := t.store.array } } ∧
      t.node.cause.kind = .powerOn ∧ t.node.phase = .loading ∧
      ∀ a, Memory.read t.store.array a = (match s.store.write with
        | .writing b _ _ => if a = b.val then 0xFF#8 else Memory.read s.store.array a
        | .idle => Memory.read s.store.array a)) ∧
    ∃ t, exec .lossOfSupply s = .next t ∧
      t = { State.reset with
              pins := { s.pins with supply := false }, pending := s.pending,
              node := { State.reset.node with loading := .held },
              store := { State.reset.store with array := t.store.array } } ∧
      ∀ a, Memory.read t.store.array a = (match s.store.write with
        | .writing b _ _ => if a = b.val then 0xFF#8 else Memory.read s.store.array a
        | .idle => Memory.read s.store.array a)

/-- The RESET line holds the node at its reset values, records kind RESET_LINE, and sets the interrupted-write flag when it cut off a byte write, that byte then holding 0xFF; its release begins LOADING with the SETUP line sampled. The time base and the outside lines stay, and in a hold that the assertion began the kind is there from the assertion on; in one that POWER_ON began under the asserted line the kind is POWER_ON until the release writes RESET_LINE: the model's choices (log 5, log 6, log 9, log 32). -/
def Obligations.ResetLineHoldsThenLoads : Prop :=
  ∀ s : State, s.pins.supply = true →
    (s.pins.resetLine = false → StoreWf s → ∃ t, exec .resetLineAssert s = .next t ∧
      t = { State.reset with
              pins := { s.pins with resetLine := true }, pending := s.pending,
              filter := { State.reset.filter with timeBase := s.filter.timeBase },
              node := { State.reset.node with
                loading := .held,
                cause := { kind := .resetLine, interruptedWrite := decide (s.store.write ≠ .idle), configValid := false,
                           reason := .none, conflict := none } },
              store := { State.reset.store with array := t.store.array } } ∧
      ∀ a, Memory.read t.store.array a = (match s.store.write with
        | .writing b _ _ => if a = b.val then 0xFF#8 else Memory.read s.store.array a
        | .idle => Memory.read s.store.array a)) ∧
    (s.pins.resetLine = true → exec .resetLineRelease s = .next
      { s with
          pins := { s.pins with resetLine := false },
          node := { s.node with loading := .reading, setupSample := s.pins.setupLine,
                                cause := { s.node.cause with kind := .resetLine } } })

/-- RESTART is accepted with the write state IDLE, and taken when its transaction ends: every block at its reset values but the capture bank, kind RESTART, LOADING begun. During a byte write it is refused with BUSY. The time base and the outside lines stay (log 5, log 6). -/
def Obligations.RestartIsTakenAtTheEnd : Prop :=
  ∀ s : State,
    (Serving s → s.store.write = .idle → exec .restart s = .next (s.setPort (.answered [0] true))) ∧
    (Serving s → s.store.write ≠ .idle → exec .restart s = .next (answeredWith .busy s)) ∧
    (∀ result, s.port = .answered result true → exec .chipSelectRelease s = .next
      { State.reset with
          pins := s.pins, pending := s.pending,
          filter := { State.reset.filter with timeBase := s.filter.timeBase },
          node := { State.reset.node with
            loading := .reading, setupSample := s.pins.setupLine,
            cause := { kind := .restart, interruptedWrite := false, configValid := false, reason := .none, conflict := none } },
          counters := { State.reset.counters with capture := s.counters.capture },
          store := { State.reset.store with array := s.store.array } })

/-- LOADING_READ_DONE: the stored start counter plus one becomes the start counter, its low 8 bits the start tag, and the write of its high byte at 0x000 begins; what validation finds is kept to the end of LOADING (log 21), and nothing else changes. Validation makes its tests in order: NODE_CRC, LIBRARY_CRC, then every field in its range at its address; the first to fail gives the detail, and a store that passes all gives the blocks the values its bytes hold. -/
def Obligations.LoadingAdvancesTheStartCounter : Prop :=
  (∀ s : State, s.node.phase = .loading → s.node.loading = .reading →
    let stored : Word16 := Memory.read s.store.array 0 ++ Memory.read s.store.array 1
    exec .loadingReadDone s = .next
      { s with
          node := { s.node with startCounter := stored + 1, startTag := (stored + 1).setWidth 8, loading := .checked (validate s.store.array) },
          store := { s.store with write := .writing 0 ((stored + 1).extractLsb' 8 8) 40 } }) ∧
  (∀ m : Memory,
    let bytes (first last : Nat) : List Byte := (List.range (last + 1 - first)).map (fun i => Memory.read m (first + i))
    let nodeGood : Prop := Memory.read m 0x03E ++ Memory.read m 0x03F = crc16 (bytes 0x002 0x03D)
    let libraryGood : Prop := Memory.read m 0x741 ++ Memory.read m 0x742 = crc16 (bytes 0x040 0x740)
    (¬ nodeGood → validate m = .invalid .node) ∧
    (nodeGood → ¬ libraryGood → validate m = .invalid .library) ∧
    (nodeGood → libraryGood → ¬ FieldsInRange m → validate m = .invalid .field) ∧
    (nodeGood → libraryGood → FieldsInRange m → ∃ c, validate m = .valid c ∧ HoldsConfiguration m c))

/-- Each START_COUNTER_WRITE_DONE ends the write under way, whose time first passes (log 3; LOADING itself is not timed, log 26). The first puts the high byte at 0x000 and begins the low byte's; the second puts the low byte at 0x001 and ends LOADING, in COMMISSION for an invalid configuration or a high SETUP sample, with all channels fading to half duty, else in LISTEN by its entry. The blocks take the configuration, or for an invalid one zero defaults, no library, no occupancy, UNUSED inputs, heads of zone none and 1000 Hz; the fade tick and the period timing start, at their full times (log 13). -/
def Obligations.StartCounterWritesEndLoading : Prop :=
  ∀ (found : Validation) (v : Byte) (n : Nat) (s : State), s.node.loading = .checked found →
    let u := endOfWrite s
    (s.store.write = .writing 0 v n → exec .startCounterWriteDone s = .next
      { u with store := { s.store with array := Memory.write s.store.array 0 v,
                                       write := .writing 1 (s.node.startCounter.setWidth 8) 40 } }) ∧
    (s.store.write = .writing 1 v n → ∃ t, exec .startCounterWriteDone s = .next t ∧
      t.store = { s.store with array := Memory.write s.store.array 1 v, write := .idle } ∧
      t.node.loading = .ended ∧ t.node.startCounter = s.node.startCounter ∧ t.node.startTag = s.node.startTag ∧
      (∀ d, found = .invalid d →
        t.node.phase = .commission ∧ t.node.station = none ∧ t.events.mask = BitVec.allOnes 14 ∧
        t.events.records.configInvalid = some d ∧
        t.zoneStore = { s.zoneStore with defaults := t.zoneStore.defaults, library := none, checksum := none } ∧
        (∀ z : Zone, t.zoneStore.defaults[z] = { colour := ⟨0, 0, 0⟩, level := 0, switchFade := 0 } ∧
          t.occupancy.config[z].enable = false) ∧
        (∀ i : Line, t.inputs.config[i].kind = .unused) ∧
        (∀ h : Head, t.heads.config[h] = { zone := none, red := true, green := true, blue := true }) ∧
        t.heads.rate = 2 ∧ t.heads.fadeTick = .running 100 ∧ t.heads.period = .running 10 ∧
        t.presence.peers = s.presence.peers ∧
        t.presence.timer = .running 10000 ∧
        (∀ L, t.lanes.get L = { s.lanes.get L with state := if s.pins.faultLines.get L = true then .down else .up }) ∧
        (∀ ch : Channel, t.heads.channels[ch] = startFade 2048 3 s.heads.channels[ch]) ∧
        t.node.cause = { s.node.cause with configValid := false, reason := .configInvalid }) ∧
      (∀ c, found = .valid c →
        t.node.phase = (if s.node.setupSample = true then .commission else .listen) ∧
        t.node.station = some c.station ∧ t.events.mask = c.mask ∧ t.presence.peers[c.station].state = .self ∧
        t.presence.timer = .running (10 * (250 * 2 ^ c.presence.val)) ∧
        t.zoneStore = { s.zoneStore with defaults := c.defaults, library := some c.library, checksum := some c.checksum } ∧
        t.occupancy.config = c.occupancy ∧ t.inputs.config = c.inputs ∧ t.heads.config = c.heads ∧
        t.heads.rate = c.rate ∧ t.heads.fadeTick = .running 100 ∧ t.heads.period = .running (40 / 2 ^ c.rate.val) ∧
        (s.node.setupSample = true →
          (∀ L, t.lanes.get L = if c.laneUse.get L = true then
            { s.lanes.get L with state := if s.pins.faultLines.get L = true then .down else .up } else s.lanes.get L) ∧
          (∀ ch : Channel, t.heads.channels[ch] = startFade 2048 3 s.heads.channels[ch])) ∧
        (s.node.setupSample = false → ∃ w, t = enterListen c.laneUse w ∧ w.pins = s.pins ∧ w.lanes = s.lanes ∧
          w.heads.channels = s.heads.channels ∧ w.occupancy.records = u.occupancy.records ∧ w.inputs.records = u.inputs.records) ∧
        t.node.cause = { s.node.cause with configValid := true, reason := if s.node.setupSample = true then .setupLine else .none }) ∧
      t.pins = s.pins ∧ t.tx = s.tx ∧ t.catchUp = u.catchUp ∧ t.counters = s.counters ∧ t.port = s.port)

/-- The entry of LISTEN: enabled lanes come UP or DOWN by their fault lines, enabled zones become OCCUPIED with a full grace time and cause START, used inputs take their sensed levels, a SENSOR found ACTIVE starting its refresh timer at 20 s, and each head with a zone fades with code 3 to the zone's effective setting at its factor, its masked channels being set to 0. No event record but OCCUPANCY_CHANGED is touched, nor that one where no zone is enabled (log 17). -/
def Obligations.ListenEntryStartsTheNode : Prop :=
  ∀ (use : PerLane Bool) (s : State),
    let t := enterListen use s
    t.node = { s.node with phase := .listen, listenExpiries := 0 } ∧
    t.presence = { s.presence with timer := .running s.presence.interval } ∧
    (∀ L, t.lanes.get L = if use.get L = true then
        { s.lanes.get L with state := if s.pins.faultLines.get L = true then .down else .up } else s.lanes.get L) ∧
    (∀ z : Zone, t.occupancy.records[z] = if s.occupancy.config[z].enable = true then
        { state := .occupied, timer := .running (graceTime s.occupancy.config[z].grace), cause := .start, overtaken := false }
      else s.occupancy.records[z]) ∧
    (∀ z : Zone, inSet (t.events.records.occupancyChanged.getD 0) z =
      (inSet (s.events.records.occupancyChanged.getD 0) z || s.occupancy.config[z].enable)) ∧
    (∀ i : Line, s.inputs.config[i].kind ≠ .unused →
      t.inputs.records[i].active = (if s.inputs.config[i].activeLow then !s.pins.inputLines[i] else s.pins.inputLines[i]) ∧
      t.inputs.records[i].debounce = .stopped ∧ t.inputs.records[i].repeating = .stopped ∧
      t.inputs.records[i].refresh =
        (match s.inputs.config[i].kind with
          | .sensor _ => if t.inputs.records[i].active = true then .running 200000 else .stopped
          | _ => .stopped)) ∧
    (∀ i : Line, s.inputs.config[i].kind = .unused → t.inputs.records[i] = s.inputs.records[i]) ∧
    t.inputs.config = s.inputs.config ∧
    (∀ (z : Zone) (ch : Channel), lights s.heads z ch →
      t.heads.channels[ch] = startFade
        (targetOf (componentOf (effective s.zoneStore z).colour ch) (effective s.zoneStore z).level (factorOf t.occupancy z)) 3
        s.heads.channels[ch]) ∧
    (∀ ch : Channel, s.heads.config[headOf ch].zone ≠ none → channelEnabled s.heads.config[headOf ch] ch = false →
      t.heads.channels[ch] = { current := 0, target := 0, remaining := 0, buffer := 0 }) ∧
    (∀ ch : Channel, s.heads.config[headOf ch].zone = none → t.heads.channels[ch] = s.heads.channels[ch]) ∧
    t.heads = { s.heads with channels := t.heads.channels } ∧ t.occupancy.config = s.occupancy.config ∧
    t.events = { s.events with records := { s.events.records with occupancyChanged := t.events.records.occupancyChanged } } ∧
    ((∀ z : Zone, s.occupancy.config[z].enable = false) → t.events = s.events) ∧
    t = { s with node := t.node, presence := t.presence, lanes := t.lanes, occupancy := t.occupancy, inputs := t.inputs,
                 heads := t.heads, events := t.events } ∧
    t.pins = s.pins ∧ t.filter = s.filter ∧ t.zoneStore = s.zoneStore ∧ t.catchUp = s.catchUp ∧ t.tx = s.tx ∧
    t.counters = s.counters ∧ t.store = s.store

/-! ## The Local Port -/

/-- Chip select opens a transaction unless the node is held at reset, and its release ends one that carries no accepted RESTART; nothing else changes. A falling fault line leaves its lane as it is, and the SETUP line's level waits for the next start: each moves its line alone. A transaction is known by its edges (log 8). Byte by byte: the part shifts out 0x00 while code and arguments come in, the request takes effect with its last byte, and then its result code, its result bytes and 0x00 follow, whatever is shifted in; a request that is not complete has no effect. -/
def Obligations.TransactionsAndLinesOnlyMove : Prop :=
  (∀ s : State,
      (s.port = .closed → s.node.loading ≠ .held → exec .chipSelectAssert s = .next (s.setPort .opened)) ∧
      (s.port = .closed → s.node.loading = .held → exec .chipSelectAssert s = .next s) ∧
      (s.port = .opened → exec .chipSelectRelease s = .next (s.setPort .closed)) ∧
      (∀ result, s.port = .answered result false → exec .chipSelectRelease s = .next (s.setPort .closed))) ∧
  (∀ s : State,
      (∀ L, exec (.laneFaultClear L) s = .next (s.setPins { s.pins with faultLines := s.pins.faultLines.put L false })) ∧
      (∀ high, exec (.setupLineChange high) s = .next (s.setPins { s.pins with setupLine := high }))) ∧
  (∀ (c : Instr) (s : State), requestBytes c ≠ [] → c.wellFormed = true → s.port = .opened →
      (∃ t result restarting, exec c s = .next t ∧ t.port = .answered result restarting ∧
        ∀ more : List Byte, clockBytes (requestBytes c ++ more) { shiftedIn := [], node := s } =
          (List.replicate (requestBytes c).length 0 ++ (List.range more.length).map (fun i => result.getD i 0),
           { shiftedIn := requestBytes c ++ more, node := t })) ∧
      (∀ n, n < (requestBytes c).length →
        clockBytes ((requestBytes c).take n) { shiftedIn := [], node := s } =
          (List.replicate n 0, { shiftedIn := (requestBytes c).take n, node := s }))) ∧
  (∀ (b : Byte) (k : Nat), k < 8 → (shiftedBits b)[k]? = some (b.getLsbD (7 - k)))

/-- The screening of requests: an undefined code in every phase, LOADING, CONFIG_WRITE outside COMMISSION, arguments out of range, and a byte write under way, each with its result code and no further effect. The bytes that spell each request: its code, then its arguments, high byte first. -/
def Obligations.RequestsAreScreenedInOrder : Prop :=
  (∀ (more : List Byte) (a b d e f g : Byte),
    readRequest (0x01 :: more) = some .status ∧ readRequest (0x02 :: more) = some .nextEvent ∧
    readRequest (0x10 :: a :: b :: d :: e :: f :: g :: more) = some (.publishSet a b d e f g) ∧
    readRequest (0x11 :: a :: b :: more) = some (.publishRecall a b) ∧
    readRequest (0x12 :: a :: b :: d :: e :: more) = some (.publishOccupy (a ++ b ++ d ++ e)) ∧
    readRequest (0x20 :: a :: more) = some (.readZone a) ∧ readRequest (0x22 :: a :: more) = some (.readPeer a) ∧
    readRequest (0x23 :: a :: more) = some (.readHead a) ∧ readRequest (0x30 :: more) = some .capture ∧
    readRequest (0x31 :: a :: b :: more) = some (.readCounter a b) ∧
    readRequest (0x40 :: a :: b :: more) = some (.configPoint (a ++ b)) ∧
    readRequest (0x41 :: a :: more) = some (.configRead a) ∧ readRequest (0x42 :: a :: more) = some (.configWrite a) ∧
    readRequest (0x7F :: more) = some .restart ∧
    (a ∉ requestCodes → readRequest (a :: more) = some (.badRequest a)) ∧
    (∀ c, readRequest more = some c → (requestBytes c).isPrefixOf more = true ∧ c.wellFormed = true)) ∧
  ∀ s : State, s.port = .opened →
    (∀ code : Byte, code ∉ requestCodes → exec (.badRequest code) s = .next (answeredWith .badRequest s)) ∧
    (s.node.phase = .loading → ∀ c : Instr,
      c ∈ [Instr.nextEvent, .capture, .restart] ∨ (∃ a, c = .readZone a ∨ c = .readPeer a ∨ c = .readHead a ∨ c = .configRead a ∨ c = .configWrite a) ∨
        (∃ a, c = .configPoint a) ∨ (∃ a b, c = .readCounter a b ∨ c = .publishRecall a b) ∨ (∃ z, c = .publishOccupy z) ∨
        (∃ a b d e f g, c = .publishSet a b d e f g) →
      exec c s = .next (answeredWith .refusedPhase s)) ∧
    (s.node.phase ≠ .commission → ∀ v, exec (.configWrite v) s = .next (answeredWith .refusedPhase s)) ∧
    (s.node.phase ≠ .loading →
      (∀ z r g b level options : Byte, (31 < z.toNat ∨ options &&& 0xE0#8 ≠ 0) →
        exec (.publishSet z r g b level options) s = .next (answeredWith .badArgument s)) ∧
      (∀ look options : Byte, (15 < look.toNat ∨ options &&& 0xFE#8 ≠ 0) →
        exec (.publishRecall look options) s = .next (answeredWith .badArgument s)) ∧
      exec (.publishOccupy 0) s = .next (answeredWith .badArgument s) ∧
      (∀ z : Byte, 31 < z.toNat → exec (.readZone z) s = .next (answeredWith .badArgument s)) ∧
      (∀ n : Byte, 31 < n.toNat → exec (.readPeer n) s = .next (answeredWith .badArgument s)) ∧
      (∀ h : Byte, 3 < h.toNat → exec (.readHead h) s = .next (answeredWith .badArgument s)) ∧
      (∀ first count : Byte, (count = 0 ∨ 28 < first.toNat + count.toNat) →
        exec (.readCounter first count) s = .next (answeredWith .badArgument s)) ∧
      (∀ a : Word16, 2047 < a.toNat → exec (.configPoint a) s = .next (answeredWith .badArgument s)) ∧
      (∀ n : Byte, (n = 0 ∨ 2048 < s.store.pointer + n.toNat) → exec (.configRead n) s = .next (answeredWith .badArgument s)) ∧
      (s.store.write ≠ .idle →
        (∀ a : Word16, a.toNat ≤ 2047 → exec (.configPoint a) s = .next (answeredWith .busy s)) ∧
        (∀ n : Byte, n ≠ 0 → s.store.pointer + n.toNat ≤ 2048 → exec (.configRead n) s = .next (answeredWith .busy s)) ∧
        (s.node.phase = .commission → s.store.pointer < 2048 → ∀ v, exec (.configWrite v) s = .next (answeredWith .busy s))))

/-- STATUS in every phase, and READ_ZONE, READ_HEAD and READ_COUNTER outside LOADING, answer OK with their result bytes and change nothing but the transaction. READ_PEER answers in the same way and then clears the entry's worst skew, and only that. The result bytes stand in the layouts of R194: each number high byte first, each code as its place in R194's list, 0xFF for none. -/
def Obligations.ReadsAnswerAndKeepTheState : Prop :=
  (∀ s : State,
      (s.port = .opened → exec .status s = .next (s.setPort (.answered (0 :: statusBytes s) false)) ∧ (statusBytes s).length = 15) ∧
      (Serving s →
        (∀ z : Zone, exec (.readZone (BitVec.ofNat 8 z.val)) s = .next (s.setPort (.answered (0 :: zoneBytes z s) false)) ∧
          (zoneBytes z s).length = 21) ∧
        (∀ h : Head, exec (.readHead (BitVec.ofNat 8 h.val)) s = .next (s.setPort (.answered (0 :: headBytes h s) false)) ∧
          (headBytes h s).length = 18) ∧
        (∀ first count : Byte, count ≠ 0 → first.toNat + count.toNat ≤ 28 →
          exec (.readCounter first count) s =
            .next (s.setPort (.answered (0 :: counterBytes first.toNat count.toNat s.counters) false)) ∧
          (counterBytes first.toNat count.toNat s.counters).length = 4 * count.toNat))) ∧
  (∀ (n : Station) (s : State), Serving s →
      exec (.readPeer (BitVec.ofNat 8 n.val)) s = .next
        { s with
            filter := { s.filter with entries := update s.filter.entries n { s.filter.entries[n] with worstSkew := 0 } },
            port := .answered (0 :: peerBytes s.presence.peers[n] s.filter.entries[n]) false } ∧
      (peerBytes s.presence.peers[n] s.filter.entries[n]).length = 23) ∧
  (let one (n : Nat) : Byte := BitVec.ofNat 8 n
   let two (n : Nat) : List Byte := [one (n / 256), one n]
   let four (n : Nat) : List Byte := [one (n / 16777216), one (n / 65536), one (n / 256), one n]
   let orNone (n : Option Station) : Byte := match n with
     | some n => one n.val
     | none => 0xFF
   (∀ s : State, statusBytes s =
      [one ([Phase.loading, .commission, .listen, .catchUp, .running, .mute].idxOf s.node.phase),
       one ([ResetKind.powerOn, .resetLine, .restart].idxOf s.node.cause.kind + 4 * s.node.cause.interruptedWrite.toNat +
         8 * s.node.cause.configValid.toNat + 16 * [CommissionReason.none, .setupLine, .configInvalid].idxOf s.node.cause.reason),
       orNone s.node.cause.conflict, orNone s.node.station,
       one ([LaneState.disabled, .up, .down].idxOf s.lanes.a.state + 4 * [LaneState.disabled, .up, .down].idxOf s.lanes.b.state),
       one ((decide (s.lanes.a.state ≠ .up ∧ s.lanes.b.state ≠ .up)).toNat + 2 * s.catchUp.incomplete.toNat +
         4 * s.zoneStore.exhausted.toNat + 8 * (decide (s.store.write ≠ .idle)).toNat + 16 * (attn s).toNat)] ++
      four s.zoneStore.clock.toNat ++ two s.node.startCounter.toNat ++ two s.store.pointer ++
      [one ([Direction.none, .read, .write].idxOf s.store.direction)]) ∧
   (∀ (z : Zone) (s : State), zoneBytes z s =
      (match s.zoneStore.table[z] with
        | none => [0, 0, 0, 0, 0, 0, 0, 0, 0, 0, 0, 0xFF]
        | some x => [1, x.colour.r, x.colour.g, x.colour.b, x.level, one x.fade.val] ++ four x.stamp.toNat ++
            [one x.origin.val, match x.source with
              | .set => 0xFF
              | .recall look => one look.val]) ++
      [(effective s.zoneStore z).colour.r, (effective s.zoneStore z).colour.g, (effective s.zoneStore z).colour.b,
       (effective s.zoneStore z).level, one (effective s.zoneStore z).fade.val,
       one ([OccupancyState.follow, .occupied, .vacant, .dark].idxOf s.occupancy.records[z].state)] ++
      two (s.occupancy.records[z].timer.left / 1000) ++
      [one ([WakeCause.start, .localSensor, .occupyFrame, .switch, .port].idxOf s.occupancy.records[z].cause)]) ∧
   (∀ (p : PeerRecord) (e : OriginEntry), p.sinceLane.a ≤ 3 → p.sinceLane.b ≤ 3 → peerBytes p e =
      [one ([PeerState.absent, .present, .silent, .lost, .self].idxOf p.state), one p.sinceHeard,
       one (p.sinceLane.a + 4 * p.sinceLane.b + 16 * (decide (p.sinceLane.a < 3)).toNat + 32 * (decide (p.sinceLane.b < 3)).toNat)] ++
      two p.checksum.toNat ++
      [one ([none, some AnnouncedPhase.listen, some .catchUp, some .running].idxOf p.phase),
       one (p.incomplete.toNat + 2 * p.singleLane.toNat + 4 * p.mismatch.toNat + 8 * p.crossed.toNat)] ++
      four p.clock.toNat ++ [one e.active.toNat, e.startTag] ++ two e.highest.toNat ++ four e.window.toNat ++
      [one (e.lanesSeen.a.toNat + 2 * e.lanesSeen.b.toNat), e.worstSkew, e.laneMiss.a, e.laneMiss.b]) ∧
   (∀ (h : Head) (s : State), headBytes h s =
      [(0 : Fin 3), 1, 2].flatMap (fun k =>
        let c := s.heads.channels[(⟨3 * h.val + k.val, by omega⟩ : Channel)]
        two c.current ++ two c.target ++ two c.remaining)) ∧
   (∀ (first count : Nat) (bank : CounterBank), first + count ≤ 28 →
      counterBytes first count bank = (List.range count).flatMap (fun i => four ((bank.capture.toList.getD (first + i) 0).toNat))))

/-- NEXT_EVENT returns the pending kind of highest priority, enabled or not, and clears that record alone; with none pending it returns NONE and changes nothing. The four detail bytes of each kind are those of R194. -/
def Obligations.NextEventTakesTheHighestPriority : Prop :=
  (let one (n : Nat) : Byte := BitVec.ofNat 8 n
   let four (n : Nat) : List Byte := [one (n / 16777216), one (n / 65536), one (n / 256), one n]
   (∀ n : Station, eventBytes (.stationConflict n) = [0, 0, 0, 0, one n.val]) ∧
   (∀ d : ConfigDetail, eventBytes (.configInvalid d) = [1, 0, 0, 0, one (1 + [ConfigDetail.node, .library, .field].idxOf d)]) ∧
   (∀ l : LaneSet, eventBytes (.laneDown l) = [2, 0, 0, 0, one (l.a.toNat + 2 * l.b.toNat)] ∧
     eventBytes (.laneUp l) = [3, 0, 0, 0, one (l.a.toNat + 2 * l.b.toNat)]) ∧
   (∀ set : BitVec 32, eventBytes (.peerLost set) = 4 :: four set.toNat ∧ eventBytes (.peerJoined set) = 5 :: four set.toNat ∧
     eventBytes (.peerRestart set) = 6 :: four set.toNat ∧ eventBytes (.libraryMismatch set) = 7 :: four set.toNat ∧
     eventBytes (.zoneChanged set) = 10 :: four set.toNat ∧ eventBytes (.occupancyChanged set) = 11 :: four set.toNat) ∧
   (∀ n : Byte, eventBytes (.txDrop n) = [8, 0, 0, 0, n]) ∧
   (∀ how : Completion, eventBytes (.catchUpDone how) = [9, 0, 0, 0, one (1 + [Completion.complete, .incomplete].idxOf how)]) ∧
   (∀ i : Fin 28, eventBytes (.counterSaturated i) = [12, 0, 0, 0, one i.val]) ∧
   (∀ a : Fin 2048, eventBytes (.configWriteDone a) = [13, 0, 0, one (a.val / 256), one a.val])) ∧
  ∀ s : State, Serving s →
    (s.events.records.inOrder = List.replicate 14 none →
      exec .nextEvent s = .next (s.setPort (.answered [0, 0xFF, 0, 0, 0, 0] false))) ∧
    (∀ (k : Nat) (e : Event), k < 14 → s.events.records.inOrder[k]? = some (some e) →
      (∀ j, j < k → s.events.records.inOrder[j]? = some none) →
      ∃ t detail, exec .nextEvent s = .next t ∧ detail.length = 4 ∧
        t.port = .answered (0 :: BitVec.ofNat 8 k :: detail) false ∧ eventBytes e = BitVec.ofNat 8 k :: detail ∧
        t.events.mask = s.events.mask ∧ t.events.records.inOrder = s.events.records.inOrder.set k none ∧
        t = { s with events := t.events, port := t.port })

/-! ## The Config Store -/

/-- CONFIG_POINT sets the pointer and the direction NONE; CONFIG_READ returns the bytes from the pointer onward, advances it and sets the direction READ; nothing else changes. CONFIG_WRITE in COMMISSION begins a byte write at the pointer; at its end, once all of its time has passed (log 3), the byte holds the value, every other byte reads as before, the pointer has advanced and CONFIG_WRITE_DONE names the address. -/
def Obligations.ConfigRequestsServeTheStore : Prop :=
  (∀ s : State, Serving s → s.store.write = .idle →
      (∀ a : Word16, a.toNat ≤ 2047 → exec (.configPoint a) s = .next
        { s with store := { s.store with pointer := a.toNat, direction := .none }, port := .answered [0] false }) ∧
      (∀ n : Byte, n ≠ 0 → s.store.pointer + n.toNat ≤ 2048 → exec (.configRead n) s = .next
        { s with
            store := { s.store with pointer := s.store.pointer + n.toNat, direction := .read },
            port := .answered (0 :: (List.range n.toNat).map (fun i => Memory.read s.store.array (s.store.pointer + i))) false })) ∧
  (∀ s : State, s.node.phase = .commission →
      (s.port = .opened → s.store.write = .idle → ∀ (a : Fin 2048) (v : Byte), s.store.pointer = a.val →
        exec (.configWrite v) s = .next
          { s with store := { s.store with direction := .write, write := .writing a v 40 }, port := .answered [0] false }) ∧
      (s.port = .opened → s.store.write = .idle → s.store.pointer = 2048 → ∀ v : Byte,
        exec (.configWrite v) s = .next (answeredWith .badArgument s)) ∧
      (∀ (a : Fin 2048) (v : Byte) (n : Nat), s.store.write = .writing a v n → StoreWf s →
        ∃ t, exec .configWriteDone s = .next t ∧
          (∀ x, Memory.read t.store.array x = if x = a.val then v else Memory.read s.store.array x) ∧
          t.store = { s.store with array := t.store.array, write := .idle, pointer := min 2048 (s.store.pointer + 1) } ∧
          t.events = { s.events with records := { s.events.records with configWriteDone := some a } } ∧
          t = { endOfWrite s with store := t.store, events := t.events }))

/-! ## Counters and events -/

/-- A count adds 1 below 2^32 - 1 and is lost there; the first saturation since the latch was cleared sets it and raises COUNTER_SATURATED with the counter's index. No other counter, no capture counter and no other event is touched. -/
def Obligations.CountsSaturateOnce : Prop :=
  ∀ (i : Fin 28) (s : State),
    let t := countAt i s
    (∀ j : Fin 28, t.counters.live[j] = if j = i then oneMore s.counters.live[j] else s.counters.live[j]) ∧
    t.counters.capture = s.counters.capture ∧
    (s.counters.live[i] = 0xFFFFFFFE#32 → s.counters.latch = false →
      t.counters.latch = true ∧
      t.events = { s.events with records := { s.events.records with counterSaturated := some i } }) ∧
    ((s.counters.live[i] ≠ 0xFFFFFFFE#32 ∨ s.counters.latch = true) → t.counters.latch = s.counters.latch ∧ t.events = s.events) ∧
    t = { s with counters := t.counters, events := t.events }

/-- CAPTURE moves the live bank into the capture bank, clears the live bank and the latch, and leaves a pending COUNTER_SATURATED; it is answered outside LOADING and refused in it. A count taken before it falls in the captured value, one taken after it starts the new interval at 1. -/
def Obligations.CaptureMovesTheLiveBank : Prop :=
  ∀ s : State, s.port = .opened →
    (s.node.phase = .loading → exec .capture s = .next (answeredWith .refusedPhase s)) ∧
    (s.node.phase ≠ .loading →
      ∃ t, exec .capture s = .next t ∧
        (∀ i : Fin 28, t.counters.capture[i] = s.counters.live[i] ∧ t.counters.live[i] = 0) ∧ t.counters.latch = false ∧
        t.port = .answered [0] false ∧ t = { s with counters := t.counters, port := t.port } ∧
        ∀ i : Fin 28,
          (∃ u, exec .capture (countAt i s) = .next u ∧ u.counters.capture[i] = oneMore s.counters.live[i] ∧ u.counters.live[i] = 0 ∧
            u.counters.latch = false ∧ u.events = (countAt i s).events) ∧
          (s.counters.live[i] = 0xFFFFFFFE#32 → s.counters.latch = false →
            (countAt i s).counters.latch = true ∧ (countAt i s).events.records.counterSaturated = some i) ∧
          (countAt i t).counters.live[i] = 1 ∧ (countAt i t).counters.capture[i] = s.counters.live[i] ∧
          (countAt i t).events = s.events)

/-- A raise makes its kind pending with the detail merged by the kind's form, whatever the mask holds, and touches no other record: a set detail becomes the union, a count is added up to 255, a single detail is replaced; ATTN is asserted exactly while a pending kind is enabled. -/
def Obligations.RaisesMergeByForm : Prop :=
  (∀ (e : Event) (s : State), raise e s = { s with events := { s.events with records := s.events.records.add e } }) ∧
  (∀ (r : EventRecords) (n : Station) (d : ConfigDetail) (lanes : LaneSet) (set : BitVec 32) (count : Byte) (how : Completion)
      (i : Fin 28) (a : Fin 2048),
    r.add (.stationConflict n) = { r with stationConflict := some n } ∧
    r.add (.configInvalid d) = { r with configInvalid := some d } ∧
    r.add (.laneDown lanes) = { r with laneDown := (r.add (.laneDown lanes)).laneDown } ∧
    (∀ L, ((r.add (.laneDown lanes)).laneDown.map (fun l => l.get L)) = some ((r.laneDown.getD ⟨false, false⟩).get L || lanes.get L)) ∧
    r.add (.laneUp lanes) = { r with laneUp := (r.add (.laneUp lanes)).laneUp } ∧
    (∀ L, ((r.add (.laneUp lanes)).laneUp.map (fun l => l.get L)) = some ((r.laneUp.getD ⟨false, false⟩).get L || lanes.get L)) ∧
    r.add (.peerLost set) = { r with peerLost := some (r.peerLost.getD 0 ||| set) } ∧
    r.add (.peerJoined set) = { r with peerJoined := some (r.peerJoined.getD 0 ||| set) } ∧
    r.add (.peerRestart set) = { r with peerRestart := some (r.peerRestart.getD 0 ||| set) } ∧
    r.add (.libraryMismatch set) = { r with libraryMismatch := some (r.libraryMismatch.getD 0 ||| set) } ∧
    r.add (.txDrop count) = { r with txDrop := some (BitVec.ofNat 8 (min 255 ((r.txDrop.getD 0).toNat + count.toNat))) } ∧
    r.add (.catchUpDone how) = { r with catchUpDone := some how } ∧
    r.add (.zoneChanged set) = { r with zoneChanged := some (r.zoneChanged.getD 0 ||| set) } ∧
    r.add (.occupancyChanged set) = { r with occupancyChanged := some (r.occupancyChanged.getD 0 ||| set) } ∧
    r.add (.counterSaturated i) = { r with counterSaturated := some i } ∧
    r.add (.configWriteDone a) = { r with configWriteDone := some a }) ∧
  (∀ (r : EventRecords) (n m : Fin 32) (L : Lane),
    (r.add (.peerLost (oneOf n))).peerLost = andOne r.peerLost n ∧
    inSet ((andOne r.peerLost n).getD 0) m = (inSet (r.peerLost.getD 0) m || decide (m = n)) ∧
    (r.add (.laneDown (oneLane L))).laneDown = andLane r.laneDown L ∧
    (r.add (.laneUp (oneLane L))).laneUp = andLane r.laneUp L) ∧
  (∀ (x y : BitVec 32) (m : Fin 32), inSet (x ||| y) m = (inSet x m || inSet y m)) ∧
  (∀ (r : EventRecords) (e : Event) (j : Nat), (eventBytes e)[0]? ≠ some (BitVec.ofNat 8 j) → j < 14 →
    (r.add e).inOrder[j]? = r.inOrder[j]?) ∧
  (∀ s : State, attn s = true ↔ ∃ k, k < 14 ∧ (∃ e, s.events.records.inOrder[k]? = some (some e)) ∧ s.events.mask.getLsbD k = true)
end

