-- ==== Sys2Proof/Laws/State.lean ====
section
/-! SUPPORT. What each setter of State gives for each field: the field set, or the field as it was. -/

namespace Sys2Proof.Machine

open Sys2Proof

@[simp] theorem State.setPins_pins (s : State) (x : Pins) : (s.setPins x).pins = x := rfl
@[simp] theorem State.setPins_lanes (s : State) (x : Pins) : (s.setPins x).lanes = s.lanes := rfl
@[simp] theorem State.setPins_filter (s : State) (x : Pins) : (s.setPins x).filter = s.filter := rfl
@[simp] theorem State.setPins_presence (s : State) (x : Pins) : (s.setPins x).presence = s.presence := rfl
@[simp] theorem State.setPins_zoneStore (s : State) (x : Pins) : (s.setPins x).zoneStore = s.zoneStore := rfl
@[simp] theorem State.setPins_catchUp (s : State) (x : Pins) : (s.setPins x).catchUp = s.catchUp := rfl
@[simp] theorem State.setPins_tx (s : State) (x : Pins) : (s.setPins x).tx = s.tx := rfl
@[simp] theorem State.setPins_occupancy (s : State) (x : Pins) : (s.setPins x).occupancy = s.occupancy := rfl
@[simp] theorem State.setPins_inputs (s : State) (x : Pins) : (s.setPins x).inputs = s.inputs := rfl
@[simp] theorem State.setPins_heads (s : State) (x : Pins) : (s.setPins x).heads = s.heads := rfl
@[simp] theorem State.setPins_node (s : State) (x : Pins) : (s.setPins x).node = s.node := rfl
@[simp] theorem State.setPins_counters (s : State) (x : Pins) : (s.setPins x).counters = s.counters := rfl
@[simp] theorem State.setPins_events (s : State) (x : Pins) : (s.setPins x).events = s.events := rfl
@[simp] theorem State.setPins_store (s : State) (x : Pins) : (s.setPins x).store = s.store := rfl
@[simp] theorem State.setPins_port (s : State) (x : Pins) : (s.setPins x).port = s.port := rfl
@[simp] theorem State.setPins_pending (s : State) (x : Pins) : (s.setPins x).pending = s.pending := rfl
@[simp] theorem State.setPins_twice (s : State) (x y : Pins) : (s.setPins x).setPins y = s.setPins y := rfl
@[simp] theorem State.setPins_same (s : State) : s.setPins s.pins = s := rfl

@[simp] theorem State.setLanes_pins (s : State) (x : PerLane LaneInterface) : (s.setLanes x).pins = s.pins := rfl
@[simp] theorem State.setLanes_lanes (s : State) (x : PerLane LaneInterface) : (s.setLanes x).lanes = x := rfl
@[simp] theorem State.setLanes_filter (s : State) (x : PerLane LaneInterface) : (s.setLanes x).filter = s.filter := rfl
@[simp] theorem State.setLanes_presence (s : State) (x : PerLane LaneInterface) : (s.setLanes x).presence = s.presence := rfl
@[simp] theorem State.setLanes_zoneStore (s : State) (x : PerLane LaneInterface) : (s.setLanes x).zoneStore = s.zoneStore := rfl
@[simp] theorem State.setLanes_catchUp (s : State) (x : PerLane LaneInterface) : (s.setLanes x).catchUp = s.catchUp := rfl
@[simp] theorem State.setLanes_tx (s : State) (x : PerLane LaneInterface) : (s.setLanes x).tx = s.tx := rfl
@[simp] theorem State.setLanes_occupancy (s : State) (x : PerLane LaneInterface) : (s.setLanes x).occupancy = s.occupancy := rfl
@[simp] theorem State.setLanes_inputs (s : State) (x : PerLane LaneInterface) : (s.setLanes x).inputs = s.inputs := rfl
@[simp] theorem State.setLanes_heads (s : State) (x : PerLane LaneInterface) : (s.setLanes x).heads = s.heads := rfl
@[simp] theorem State.setLanes_node (s : State) (x : PerLane LaneInterface) : (s.setLanes x).node = s.node := rfl
@[simp] theorem State.setLanes_counters (s : State) (x : PerLane LaneInterface) : (s.setLanes x).counters = s.counters := rfl
@[simp] theorem State.setLanes_events (s : State) (x : PerLane LaneInterface) : (s.setLanes x).events = s.events := rfl
@[simp] theorem State.setLanes_store (s : State) (x : PerLane LaneInterface) : (s.setLanes x).store = s.store := rfl
@[simp] theorem State.setLanes_port (s : State) (x : PerLane LaneInterface) : (s.setLanes x).port = s.port := rfl
@[simp] theorem State.setLanes_pending (s : State) (x : PerLane LaneInterface) : (s.setLanes x).pending = s.pending := rfl
@[simp] theorem State.setLanes_twice (s : State) (x y : PerLane LaneInterface) : (s.setLanes x).setLanes y = s.setLanes y := rfl
@[simp] theorem State.setLanes_same (s : State) : s.setLanes s.lanes = s := rfl

@[simp] theorem State.setFilter_pins (s : State) (x : DuplicateFilter) : (s.setFilter x).pins = s.pins := rfl
@[simp] theorem State.setFilter_lanes (s : State) (x : DuplicateFilter) : (s.setFilter x).lanes = s.lanes := rfl
@[simp] theorem State.setFilter_filter (s : State) (x : DuplicateFilter) : (s.setFilter x).filter = x := rfl
@[simp] theorem State.setFilter_presence (s : State) (x : DuplicateFilter) : (s.setFilter x).presence = s.presence := rfl
@[simp] theorem State.setFilter_zoneStore (s : State) (x : DuplicateFilter) : (s.setFilter x).zoneStore = s.zoneStore := rfl
@[simp] theorem State.setFilter_catchUp (s : State) (x : DuplicateFilter) : (s.setFilter x).catchUp = s.catchUp := rfl
@[simp] theorem State.setFilter_tx (s : State) (x : DuplicateFilter) : (s.setFilter x).tx = s.tx := rfl
@[simp] theorem State.setFilter_occupancy (s : State) (x : DuplicateFilter) : (s.setFilter x).occupancy = s.occupancy := rfl
@[simp] theorem State.setFilter_inputs (s : State) (x : DuplicateFilter) : (s.setFilter x).inputs = s.inputs := rfl
@[simp] theorem State.setFilter_heads (s : State) (x : DuplicateFilter) : (s.setFilter x).heads = s.heads := rfl
@[simp] theorem State.setFilter_node (s : State) (x : DuplicateFilter) : (s.setFilter x).node = s.node := rfl
@[simp] theorem State.setFilter_counters (s : State) (x : DuplicateFilter) : (s.setFilter x).counters = s.counters := rfl
@[simp] theorem State.setFilter_events (s : State) (x : DuplicateFilter) : (s.setFilter x).events = s.events := rfl
@[simp] theorem State.setFilter_store (s : State) (x : DuplicateFilter) : (s.setFilter x).store = s.store := rfl
@[simp] theorem State.setFilter_port (s : State) (x : DuplicateFilter) : (s.setFilter x).port = s.port := rfl
@[simp] theorem State.setFilter_pending (s : State) (x : DuplicateFilter) : (s.setFilter x).pending = s.pending := rfl
@[simp] theorem State.setFilter_twice (s : State) (x y : DuplicateFilter) : (s.setFilter x).setFilter y = s.setFilter y := rfl
@[simp] theorem State.setFilter_same (s : State) : s.setFilter s.filter = s := rfl

@[simp] theorem State.setPresence_pins (s : State) (x : PresenceMonitor) : (s.setPresence x).pins = s.pins := rfl
@[simp] theorem State.setPresence_lanes (s : State) (x : PresenceMonitor) : (s.setPresence x).lanes = s.lanes := rfl
@[simp] theorem State.setPresence_filter (s : State) (x : PresenceMonitor) : (s.setPresence x).filter = s.filter := rfl
@[simp] theorem State.setPresence_presence (s : State) (x : PresenceMonitor) : (s.setPresence x).presence = x := rfl
@[simp] theorem State.setPresence_zoneStore (s : State) (x : PresenceMonitor) : (s.setPresence x).zoneStore = s.zoneStore := rfl
@[simp] theorem State.setPresence_catchUp (s : State) (x : PresenceMonitor) : (s.setPresence x).catchUp = s.catchUp := rfl
@[simp] theorem State.setPresence_tx (s : State) (x : PresenceMonitor) : (s.setPresence x).tx = s.tx := rfl
@[simp] theorem State.setPresence_occupancy (s : State) (x : PresenceMonitor) : (s.setPresence x).occupancy = s.occupancy := rfl
@[simp] theorem State.setPresence_inputs (s : State) (x : PresenceMonitor) : (s.setPresence x).inputs = s.inputs := rfl
@[simp] theorem State.setPresence_heads (s : State) (x : PresenceMonitor) : (s.setPresence x).heads = s.heads := rfl
@[simp] theorem State.setPresence_node (s : State) (x : PresenceMonitor) : (s.setPresence x).node = s.node := rfl
@[simp] theorem State.setPresence_counters (s : State) (x : PresenceMonitor) : (s.setPresence x).counters = s.counters := rfl
@[simp] theorem State.setPresence_events (s : State) (x : PresenceMonitor) : (s.setPresence x).events = s.events := rfl
@[simp] theorem State.setPresence_store (s : State) (x : PresenceMonitor) : (s.setPresence x).store = s.store := rfl
@[simp] theorem State.setPresence_port (s : State) (x : PresenceMonitor) : (s.setPresence x).port = s.port := rfl
@[simp] theorem State.setPresence_pending (s : State) (x : PresenceMonitor) : (s.setPresence x).pending = s.pending := rfl
@[simp] theorem State.setPresence_twice (s : State) (x y : PresenceMonitor) : (s.setPresence x).setPresence y = s.setPresence y := rfl
@[simp] theorem State.setPresence_same (s : State) : s.setPresence s.presence = s := rfl

@[simp] theorem State.setZoneStore_pins (s : State) (x : ZoneStore) : (s.setZoneStore x).pins = s.pins := rfl
@[simp] theorem State.setZoneStore_lanes (s : State) (x : ZoneStore) : (s.setZoneStore x).lanes = s.lanes := rfl
@[simp] theorem State.setZoneStore_filter (s : State) (x : ZoneStore) : (s.setZoneStore x).filter = s.filter := rfl
@[simp] theorem State.setZoneStore_presence (s : State) (x : ZoneStore) : (s.setZoneStore x).presence = s.presence := rfl
@[simp] theorem State.setZoneStore_zoneStore (s : State) (x : ZoneStore) : (s.setZoneStore x).zoneStore = x := rfl
@[simp] theorem State.setZoneStore_catchUp (s : State) (x : ZoneStore) : (s.setZoneStore x).catchUp = s.catchUp := rfl
@[simp] theorem State.setZoneStore_tx (s : State) (x : ZoneStore) : (s.setZoneStore x).tx = s.tx := rfl
@[simp] theorem State.setZoneStore_occupancy (s : State) (x : ZoneStore) : (s.setZoneStore x).occupancy = s.occupancy := rfl
@[simp] theorem State.setZoneStore_inputs (s : State) (x : ZoneStore) : (s.setZoneStore x).inputs = s.inputs := rfl
@[simp] theorem State.setZoneStore_heads (s : State) (x : ZoneStore) : (s.setZoneStore x).heads = s.heads := rfl
@[simp] theorem State.setZoneStore_node (s : State) (x : ZoneStore) : (s.setZoneStore x).node = s.node := rfl
@[simp] theorem State.setZoneStore_counters (s : State) (x : ZoneStore) : (s.setZoneStore x).counters = s.counters := rfl
@[simp] theorem State.setZoneStore_events (s : State) (x : ZoneStore) : (s.setZoneStore x).events = s.events := rfl
@[simp] theorem State.setZoneStore_store (s : State) (x : ZoneStore) : (s.setZoneStore x).store = s.store := rfl
@[simp] theorem State.setZoneStore_port (s : State) (x : ZoneStore) : (s.setZoneStore x).port = s.port := rfl
@[simp] theorem State.setZoneStore_pending (s : State) (x : ZoneStore) : (s.setZoneStore x).pending = s.pending := rfl
@[simp] theorem State.setZoneStore_twice (s : State) (x y : ZoneStore) : (s.setZoneStore x).setZoneStore y = s.setZoneStore y := rfl
@[simp] theorem State.setZoneStore_same (s : State) : s.setZoneStore s.zoneStore = s := rfl

@[simp] theorem State.setCatchUp_pins (s : State) (x : CatchUpUnit) : (s.setCatchUp x).pins = s.pins := rfl
@[simp] theorem State.setCatchUp_lanes (s : State) (x : CatchUpUnit) : (s.setCatchUp x).lanes = s.lanes := rfl
@[simp] theorem State.setCatchUp_filter (s : State) (x : CatchUpUnit) : (s.setCatchUp x).filter = s.filter := rfl
@[simp] theorem State.setCatchUp_presence (s : State) (x : CatchUpUnit) : (s.setCatchUp x).presence = s.presence := rfl
@[simp] theorem State.setCatchUp_zoneStore (s : State) (x : CatchUpUnit) : (s.setCatchUp x).zoneStore = s.zoneStore := rfl
@[simp] theorem State.setCatchUp_catchUp (s : State) (x : CatchUpUnit) : (s.setCatchUp x).catchUp = x := rfl
@[simp] theorem State.setCatchUp_tx (s : State) (x : CatchUpUnit) : (s.setCatchUp x).tx = s.tx := rfl
@[simp] theorem State.setCatchUp_occupancy (s : State) (x : CatchUpUnit) : (s.setCatchUp x).occupancy = s.occupancy := rfl
@[simp] theorem State.setCatchUp_inputs (s : State) (x : CatchUpUnit) : (s.setCatchUp x).inputs = s.inputs := rfl
@[simp] theorem State.setCatchUp_heads (s : State) (x : CatchUpUnit) : (s.setCatchUp x).heads = s.heads := rfl
@[simp] theorem State.setCatchUp_node (s : State) (x : CatchUpUnit) : (s.setCatchUp x).node = s.node := rfl
@[simp] theorem State.setCatchUp_counters (s : State) (x : CatchUpUnit) : (s.setCatchUp x).counters = s.counters := rfl
@[simp] theorem State.setCatchUp_events (s : State) (x : CatchUpUnit) : (s.setCatchUp x).events = s.events := rfl
@[simp] theorem State.setCatchUp_store (s : State) (x : CatchUpUnit) : (s.setCatchUp x).store = s.store := rfl
@[simp] theorem State.setCatchUp_port (s : State) (x : CatchUpUnit) : (s.setCatchUp x).port = s.port := rfl
@[simp] theorem State.setCatchUp_pending (s : State) (x : CatchUpUnit) : (s.setCatchUp x).pending = s.pending := rfl
@[simp] theorem State.setCatchUp_twice (s : State) (x y : CatchUpUnit) : (s.setCatchUp x).setCatchUp y = s.setCatchUp y := rfl
@[simp] theorem State.setCatchUp_same (s : State) : s.setCatchUp s.catchUp = s := rfl

@[simp] theorem State.setTx_pins (s : State) (x : TransmitQueue) : (s.setTx x).pins = s.pins := rfl
@[simp] theorem State.setTx_lanes (s : State) (x : TransmitQueue) : (s.setTx x).lanes = s.lanes := rfl
@[simp] theorem State.setTx_filter (s : State) (x : TransmitQueue) : (s.setTx x).filter = s.filter := rfl
@[simp] theorem State.setTx_presence (s : State) (x : TransmitQueue) : (s.setTx x).presence = s.presence := rfl
@[simp] theorem State.setTx_zoneStore (s : State) (x : TransmitQueue) : (s.setTx x).zoneStore = s.zoneStore := rfl
@[simp] theorem State.setTx_catchUp (s : State) (x : TransmitQueue) : (s.setTx x).catchUp = s.catchUp := rfl
@[simp] theorem State.setTx_tx (s : State) (x : TransmitQueue) : (s.setTx x).tx = x := rfl
@[simp] theorem State.setTx_occupancy (s : State) (x : TransmitQueue) : (s.setTx x).occupancy = s.occupancy := rfl
@[simp] theorem State.setTx_inputs (s : State) (x : TransmitQueue) : (s.setTx x).inputs = s.inputs := rfl
@[simp] theorem State.setTx_heads (s : State) (x : TransmitQueue) : (s.setTx x).heads = s.heads := rfl
@[simp] theorem State.setTx_node (s : State) (x : TransmitQueue) : (s.setTx x).node = s.node := rfl
@[simp] theorem State.setTx_counters (s : State) (x : TransmitQueue) : (s.setTx x).counters = s.counters := rfl
@[simp] theorem State.setTx_events (s : State) (x : TransmitQueue) : (s.setTx x).events = s.events := rfl
@[simp] theorem State.setTx_store (s : State) (x : TransmitQueue) : (s.setTx x).store = s.store := rfl
@[simp] theorem State.setTx_port (s : State) (x : TransmitQueue) : (s.setTx x).port = s.port := rfl
@[simp] theorem State.setTx_pending (s : State) (x : TransmitQueue) : (s.setTx x).pending = s.pending := rfl
@[simp] theorem State.setTx_twice (s : State) (x y : TransmitQueue) : (s.setTx x).setTx y = s.setTx y := rfl
@[simp] theorem State.setTx_same (s : State) : s.setTx s.tx = s := rfl

@[simp] theorem State.setOccupancy_pins (s : State) (x : OccupancyUnit) : (s.setOccupancy x).pins = s.pins := rfl
@[simp] theorem State.setOccupancy_lanes (s : State) (x : OccupancyUnit) : (s.setOccupancy x).lanes = s.lanes := rfl
@[simp] theorem State.setOccupancy_filter (s : State) (x : OccupancyUnit) : (s.setOccupancy x).filter = s.filter := rfl
@[simp] theorem State.setOccupancy_presence (s : State) (x : OccupancyUnit) : (s.setOccupancy x).presence = s.presence := rfl
@[simp] theorem State.setOccupancy_zoneStore (s : State) (x : OccupancyUnit) : (s.setOccupancy x).zoneStore = s.zoneStore := rfl
@[simp] theorem State.setOccupancy_catchUp (s : State) (x : OccupancyUnit) : (s.setOccupancy x).catchUp = s.catchUp := rfl
@[simp] theorem State.setOccupancy_tx (s : State) (x : OccupancyUnit) : (s.setOccupancy x).tx = s.tx := rfl
@[simp] theorem State.setOccupancy_occupancy (s : State) (x : OccupancyUnit) : (s.setOccupancy x).occupancy = x := rfl
@[simp] theorem State.setOccupancy_inputs (s : State) (x : OccupancyUnit) : (s.setOccupancy x).inputs = s.inputs := rfl
@[simp] theorem State.setOccupancy_heads (s : State) (x : OccupancyUnit) : (s.setOccupancy x).heads = s.heads := rfl
@[simp] theorem State.setOccupancy_node (s : State) (x : OccupancyUnit) : (s.setOccupancy x).node = s.node := rfl
@[simp] theorem State.setOccupancy_counters (s : State) (x : OccupancyUnit) : (s.setOccupancy x).counters = s.counters := rfl
@[simp] theorem State.setOccupancy_events (s : State) (x : OccupancyUnit) : (s.setOccupancy x).events = s.events := rfl
@[simp] theorem State.setOccupancy_store (s : State) (x : OccupancyUnit) : (s.setOccupancy x).store = s.store := rfl
@[simp] theorem State.setOccupancy_port (s : State) (x : OccupancyUnit) : (s.setOccupancy x).port = s.port := rfl
@[simp] theorem State.setOccupancy_pending (s : State) (x : OccupancyUnit) : (s.setOccupancy x).pending = s.pending := rfl
@[simp] theorem State.setOccupancy_twice (s : State) (x y : OccupancyUnit) : (s.setOccupancy x).setOccupancy y = s.setOccupancy y := rfl
@[simp] theorem State.setOccupancy_same (s : State) : s.setOccupancy s.occupancy = s := rfl

@[simp] theorem State.setInputs_pins (s : State) (x : InputUnit) : (s.setInputs x).pins = s.pins := rfl
@[simp] theorem State.setInputs_lanes (s : State) (x : InputUnit) : (s.setInputs x).lanes = s.lanes := rfl
@[simp] theorem State.setInputs_filter (s : State) (x : InputUnit) : (s.setInputs x).filter = s.filter := rfl
@[simp] theorem State.setInputs_presence (s : State) (x : InputUnit) : (s.setInputs x).presence = s.presence := rfl
@[simp] theorem State.setInputs_zoneStore (s : State) (x : InputUnit) : (s.setInputs x).zoneStore = s.zoneStore := rfl
@[simp] theorem State.setInputs_catchUp (s : State) (x : InputUnit) : (s.setInputs x).catchUp = s.catchUp := rfl
@[simp] theorem State.setInputs_tx (s : State) (x : InputUnit) : (s.setInputs x).tx = s.tx := rfl
@[simp] theorem State.setInputs_occupancy (s : State) (x : InputUnit) : (s.setInputs x).occupancy = s.occupancy := rfl
@[simp] theorem State.setInputs_inputs (s : State) (x : InputUnit) : (s.setInputs x).inputs = x := rfl
@[simp] theorem State.setInputs_heads (s : State) (x : InputUnit) : (s.setInputs x).heads = s.heads := rfl
@[simp] theorem State.setInputs_node (s : State) (x : InputUnit) : (s.setInputs x).node = s.node := rfl
@[simp] theorem State.setInputs_counters (s : State) (x : InputUnit) : (s.setInputs x).counters = s.counters := rfl
@[simp] theorem State.setInputs_events (s : State) (x : InputUnit) : (s.setInputs x).events = s.events := rfl
@[simp] theorem State.setInputs_store (s : State) (x : InputUnit) : (s.setInputs x).store = s.store := rfl
@[simp] theorem State.setInputs_port (s : State) (x : InputUnit) : (s.setInputs x).port = s.port := rfl
@[simp] theorem State.setInputs_pending (s : State) (x : InputUnit) : (s.setInputs x).pending = s.pending := rfl
@[simp] theorem State.setInputs_twice (s : State) (x y : InputUnit) : (s.setInputs x).setInputs y = s.setInputs y := rfl
@[simp] theorem State.setInputs_same (s : State) : s.setInputs s.inputs = s := rfl

@[simp] theorem State.setHeads_pins (s : State) (x : HeadUnit) : (s.setHeads x).pins = s.pins := rfl
@[simp] theorem State.setHeads_lanes (s : State) (x : HeadUnit) : (s.setHeads x).lanes = s.lanes := rfl
@[simp] theorem State.setHeads_filter (s : State) (x : HeadUnit) : (s.setHeads x).filter = s.filter := rfl
@[simp] theorem State.setHeads_presence (s : State) (x : HeadUnit) : (s.setHeads x).presence = s.presence := rfl
@[simp] theorem State.setHeads_zoneStore (s : State) (x : HeadUnit) : (s.setHeads x).zoneStore = s.zoneStore := rfl
@[simp] theorem State.setHeads_catchUp (s : State) (x : HeadUnit) : (s.setHeads x).catchUp = s.catchUp := rfl
@[simp] theorem State.setHeads_tx (s : State) (x : HeadUnit) : (s.setHeads x).tx = s.tx := rfl
@[simp] theorem State.setHeads_occupancy (s : State) (x : HeadUnit) : (s.setHeads x).occupancy = s.occupancy := rfl
@[simp] theorem State.setHeads_inputs (s : State) (x : HeadUnit) : (s.setHeads x).inputs = s.inputs := rfl
@[simp] theorem State.setHeads_heads (s : State) (x : HeadUnit) : (s.setHeads x).heads = x := rfl
@[simp] theorem State.setHeads_node (s : State) (x : HeadUnit) : (s.setHeads x).node = s.node := rfl
@[simp] theorem State.setHeads_counters (s : State) (x : HeadUnit) : (s.setHeads x).counters = s.counters := rfl
@[simp] theorem State.setHeads_events (s : State) (x : HeadUnit) : (s.setHeads x).events = s.events := rfl
@[simp] theorem State.setHeads_store (s : State) (x : HeadUnit) : (s.setHeads x).store = s.store := rfl
@[simp] theorem State.setHeads_port (s : State) (x : HeadUnit) : (s.setHeads x).port = s.port := rfl
@[simp] theorem State.setHeads_pending (s : State) (x : HeadUnit) : (s.setHeads x).pending = s.pending := rfl
@[simp] theorem State.setHeads_twice (s : State) (x y : HeadUnit) : (s.setHeads x).setHeads y = s.setHeads y := rfl
@[simp] theorem State.setHeads_same (s : State) : s.setHeads s.heads = s := rfl

@[simp] theorem State.setNode_pins (s : State) (x : NodeController) : (s.setNode x).pins = s.pins := rfl
@[simp] theorem State.setNode_lanes (s : State) (x : NodeController) : (s.setNode x).lanes = s.lanes := rfl
@[simp] theorem State.setNode_filter (s : State) (x : NodeController) : (s.setNode x).filter = s.filter := rfl
@[simp] theorem State.setNode_presence (s : State) (x : NodeController) : (s.setNode x).presence = s.presence := rfl
@[simp] theorem State.setNode_zoneStore (s : State) (x : NodeController) : (s.setNode x).zoneStore = s.zoneStore := rfl
@[simp] theorem State.setNode_catchUp (s : State) (x : NodeController) : (s.setNode x).catchUp = s.catchUp := rfl
@[simp] theorem State.setNode_tx (s : State) (x : NodeController) : (s.setNode x).tx = s.tx := rfl
@[simp] theorem State.setNode_occupancy (s : State) (x : NodeController) : (s.setNode x).occupancy = s.occupancy := rfl
@[simp] theorem State.setNode_inputs (s : State) (x : NodeController) : (s.setNode x).inputs = s.inputs := rfl
@[simp] theorem State.setNode_heads (s : State) (x : NodeController) : (s.setNode x).heads = s.heads := rfl
@[simp] theorem State.setNode_node (s : State) (x : NodeController) : (s.setNode x).node = x := rfl
@[simp] theorem State.setNode_counters (s : State) (x : NodeController) : (s.setNode x).counters = s.counters := rfl
@[simp] theorem State.setNode_events (s : State) (x : NodeController) : (s.setNode x).events = s.events := rfl
@[simp] theorem State.setNode_store (s : State) (x : NodeController) : (s.setNode x).store = s.store := rfl
@[simp] theorem State.setNode_port (s : State) (x : NodeController) : (s.setNode x).port = s.port := rfl
@[simp] theorem State.setNode_pending (s : State) (x : NodeController) : (s.setNode x).pending = s.pending := rfl
@[simp] theorem State.setNode_twice (s : State) (x y : NodeController) : (s.setNode x).setNode y = s.setNode y := rfl
@[simp] theorem State.setNode_same (s : State) : s.setNode s.node = s := rfl

@[simp] theorem State.setCounters_pins (s : State) (x : CounterBank) : (s.setCounters x).pins = s.pins := rfl
@[simp] theorem State.setCounters_lanes (s : State) (x : CounterBank) : (s.setCounters x).lanes = s.lanes := rfl
@[simp] theorem State.setCounters_filter (s : State) (x : CounterBank) : (s.setCounters x).filter = s.filter := rfl
@[simp] theorem State.setCounters_presence (s : State) (x : CounterBank) : (s.setCounters x).presence = s.presence := rfl
@[simp] theorem State.setCounters_zoneStore (s : State) (x : CounterBank) : (s.setCounters x).zoneStore = s.zoneStore := rfl
@[simp] theorem State.setCounters_catchUp (s : State) (x : CounterBank) : (s.setCounters x).catchUp = s.catchUp := rfl
@[simp] theorem State.setCounters_tx (s : State) (x : CounterBank) : (s.setCounters x).tx = s.tx := rfl
@[simp] theorem State.setCounters_occupancy (s : State) (x : CounterBank) : (s.setCounters x).occupancy = s.occupancy := rfl
@[simp] theorem State.setCounters_inputs (s : State) (x : CounterBank) : (s.setCounters x).inputs = s.inputs := rfl
@[simp] theorem State.setCounters_heads (s : State) (x : CounterBank) : (s.setCounters x).heads = s.heads := rfl
@[simp] theorem State.setCounters_node (s : State) (x : CounterBank) : (s.setCounters x).node = s.node := rfl
@[simp] theorem State.setCounters_counters (s : State) (x : CounterBank) : (s.setCounters x).counters = x := rfl
@[simp] theorem State.setCounters_events (s : State) (x : CounterBank) : (s.setCounters x).events = s.events := rfl
@[simp] theorem State.setCounters_store (s : State) (x : CounterBank) : (s.setCounters x).store = s.store := rfl
@[simp] theorem State.setCounters_port (s : State) (x : CounterBank) : (s.setCounters x).port = s.port := rfl
@[simp] theorem State.setCounters_pending (s : State) (x : CounterBank) : (s.setCounters x).pending = s.pending := rfl
@[simp] theorem State.setCounters_twice (s : State) (x y : CounterBank) : (s.setCounters x).setCounters y = s.setCounters y := rfl
@[simp] theorem State.setCounters_same (s : State) : s.setCounters s.counters = s := rfl

@[simp] theorem State.setEvents_pins (s : State) (x : EventUnit) : (s.setEvents x).pins = s.pins := rfl
@[simp] theorem State.setEvents_lanes (s : State) (x : EventUnit) : (s.setEvents x).lanes = s.lanes := rfl
@[simp] theorem State.setEvents_filter (s : State) (x : EventUnit) : (s.setEvents x).filter = s.filter := rfl
@[simp] theorem State.setEvents_presence (s : State) (x : EventUnit) : (s.setEvents x).presence = s.presence := rfl
@[simp] theorem State.setEvents_zoneStore (s : State) (x : EventUnit) : (s.setEvents x).zoneStore = s.zoneStore := rfl
@[simp] theorem State.setEvents_catchUp (s : State) (x : EventUnit) : (s.setEvents x).catchUp = s.catchUp := rfl
@[simp] theorem State.setEvents_tx (s : State) (x : EventUnit) : (s.setEvents x).tx = s.tx := rfl
@[simp] theorem State.setEvents_occupancy (s : State) (x : EventUnit) : (s.setEvents x).occupancy = s.occupancy := rfl
@[simp] theorem State.setEvents_inputs (s : State) (x : EventUnit) : (s.setEvents x).inputs = s.inputs := rfl
@[simp] theorem State.setEvents_heads (s : State) (x : EventUnit) : (s.setEvents x).heads = s.heads := rfl
@[simp] theorem State.setEvents_node (s : State) (x : EventUnit) : (s.setEvents x).node = s.node := rfl
@[simp] theorem State.setEvents_counters (s : State) (x : EventUnit) : (s.setEvents x).counters = s.counters := rfl
@[simp] theorem State.setEvents_events (s : State) (x : EventUnit) : (s.setEvents x).events = x := rfl
@[simp] theorem State.setEvents_store (s : State) (x : EventUnit) : (s.setEvents x).store = s.store := rfl
@[simp] theorem State.setEvents_port (s : State) (x : EventUnit) : (s.setEvents x).port = s.port := rfl
@[simp] theorem State.setEvents_pending (s : State) (x : EventUnit) : (s.setEvents x).pending = s.pending := rfl
@[simp] theorem State.setEvents_twice (s : State) (x y : EventUnit) : (s.setEvents x).setEvents y = s.setEvents y := rfl
@[simp] theorem State.setEvents_same (s : State) : s.setEvents s.events = s := rfl

@[simp] theorem State.setStore_pins (s : State) (x : ConfigStore) : (s.setStore x).pins = s.pins := rfl
@[simp] theorem State.setStore_lanes (s : State) (x : ConfigStore) : (s.setStore x).lanes = s.lanes := rfl
@[simp] theorem State.setStore_filter (s : State) (x : ConfigStore) : (s.setStore x).filter = s.filter := rfl
@[simp] theorem State.setStore_presence (s : State) (x : ConfigStore) : (s.setStore x).presence = s.presence := rfl
@[simp] theorem State.setStore_zoneStore (s : State) (x : ConfigStore) : (s.setStore x).zoneStore = s.zoneStore := rfl
@[simp] theorem State.setStore_catchUp (s : State) (x : ConfigStore) : (s.setStore x).catchUp = s.catchUp := rfl
@[simp] theorem State.setStore_tx (s : State) (x : ConfigStore) : (s.setStore x).tx = s.tx := rfl
@[simp] theorem State.setStore_occupancy (s : State) (x : ConfigStore) : (s.setStore x).occupancy = s.occupancy := rfl
@[simp] theorem State.setStore_inputs (s : State) (x : ConfigStore) : (s.setStore x).inputs = s.inputs := rfl
@[simp] theorem State.setStore_heads (s : State) (x : ConfigStore) : (s.setStore x).heads = s.heads := rfl
@[simp] theorem State.setStore_node (s : State) (x : ConfigStore) : (s.setStore x).node = s.node := rfl
@[simp] theorem State.setStore_counters (s : State) (x : ConfigStore) : (s.setStore x).counters = s.counters := rfl
@[simp] theorem State.setStore_events (s : State) (x : ConfigStore) : (s.setStore x).events = s.events := rfl
@[simp] theorem State.setStore_store (s : State) (x : ConfigStore) : (s.setStore x).store = x := rfl
@[simp] theorem State.setStore_port (s : State) (x : ConfigStore) : (s.setStore x).port = s.port := rfl
@[simp] theorem State.setStore_pending (s : State) (x : ConfigStore) : (s.setStore x).pending = s.pending := rfl
@[simp] theorem State.setStore_twice (s : State) (x y : ConfigStore) : (s.setStore x).setStore y = s.setStore y := rfl
@[simp] theorem State.setStore_same (s : State) : s.setStore s.store = s := rfl

@[simp] theorem State.setPort_pins (s : State) (x : Transaction) : (s.setPort x).pins = s.pins := rfl
@[simp] theorem State.setPort_lanes (s : State) (x : Transaction) : (s.setPort x).lanes = s.lanes := rfl
@[simp] theorem State.setPort_filter (s : State) (x : Transaction) : (s.setPort x).filter = s.filter := rfl
@[simp] theorem State.setPort_presence (s : State) (x : Transaction) : (s.setPort x).presence = s.presence := rfl
@[simp] theorem State.setPort_zoneStore (s : State) (x : Transaction) : (s.setPort x).zoneStore = s.zoneStore := rfl
@[simp] theorem State.setPort_catchUp (s : State) (x : Transaction) : (s.setPort x).catchUp = s.catchUp := rfl
@[simp] theorem State.setPort_tx (s : State) (x : Transaction) : (s.setPort x).tx = s.tx := rfl
@[simp] theorem State.setPort_occupancy (s : State) (x : Transaction) : (s.setPort x).occupancy = s.occupancy := rfl
@[simp] theorem State.setPort_inputs (s : State) (x : Transaction) : (s.setPort x).inputs = s.inputs := rfl
@[simp] theorem State.setPort_heads (s : State) (x : Transaction) : (s.setPort x).heads = s.heads := rfl
@[simp] theorem State.setPort_node (s : State) (x : Transaction) : (s.setPort x).node = s.node := rfl
@[simp] theorem State.setPort_counters (s : State) (x : Transaction) : (s.setPort x).counters = s.counters := rfl
@[simp] theorem State.setPort_events (s : State) (x : Transaction) : (s.setPort x).events = s.events := rfl
@[simp] theorem State.setPort_store (s : State) (x : Transaction) : (s.setPort x).store = s.store := rfl
@[simp] theorem State.setPort_port (s : State) (x : Transaction) : (s.setPort x).port = x := rfl
@[simp] theorem State.setPort_pending (s : State) (x : Transaction) : (s.setPort x).pending = s.pending := rfl
@[simp] theorem State.setPort_twice (s : State) (x y : Transaction) : (s.setPort x).setPort y = s.setPort y := rfl
@[simp] theorem State.setPort_same (s : State) : s.setPort s.port = s := rfl

@[simp] theorem State.setPending_pins (s : State) (x : List Instr) : (s.setPending x).pins = s.pins := rfl
@[simp] theorem State.setPending_lanes (s : State) (x : List Instr) : (s.setPending x).lanes = s.lanes := rfl
@[simp] theorem State.setPending_filter (s : State) (x : List Instr) : (s.setPending x).filter = s.filter := rfl
@[simp] theorem State.setPending_presence (s : State) (x : List Instr) : (s.setPending x).presence = s.presence := rfl
@[simp] theorem State.setPending_zoneStore (s : State) (x : List Instr) : (s.setPending x).zoneStore = s.zoneStore := rfl
@[simp] theorem State.setPending_catchUp (s : State) (x : List Instr) : (s.setPending x).catchUp = s.catchUp := rfl
@[simp] theorem State.setPending_tx (s : State) (x : List Instr) : (s.setPending x).tx = s.tx := rfl
@[simp] theorem State.setPending_occupancy (s : State) (x : List Instr) : (s.setPending x).occupancy = s.occupancy := rfl
@[simp] theorem State.setPending_inputs (s : State) (x : List Instr) : (s.setPending x).inputs = s.inputs := rfl
@[simp] theorem State.setPending_heads (s : State) (x : List Instr) : (s.setPending x).heads = s.heads := rfl
@[simp] theorem State.setPending_node (s : State) (x : List Instr) : (s.setPending x).node = s.node := rfl
@[simp] theorem State.setPending_counters (s : State) (x : List Instr) : (s.setPending x).counters = s.counters := rfl
@[simp] theorem State.setPending_events (s : State) (x : List Instr) : (s.setPending x).events = s.events := rfl
@[simp] theorem State.setPending_store (s : State) (x : List Instr) : (s.setPending x).store = s.store := rfl
@[simp] theorem State.setPending_port (s : State) (x : List Instr) : (s.setPending x).port = s.port := rfl
@[simp] theorem State.setPending_pending (s : State) (x : List Instr) : (s.setPending x).pending = x := rfl
@[simp] theorem State.setPending_twice (s : State) (x y : List Instr) : (s.setPending x).setPending y = s.setPending y := rfl
@[simp] theorem State.setPending_same (s : State) : s.setPending s.pending = s := rfl

/-- Two states that agree on every field are the same state. -/
theorem State.eq_of_fields (s t : State)
    (pins : s.pins = t.pins) (lanes : s.lanes = t.lanes) (filter : s.filter = t.filter) (presence : s.presence = t.presence)
    (zoneStore : s.zoneStore = t.zoneStore) (catchUp : s.catchUp = t.catchUp) (tx : s.tx = t.tx) (occupancy : s.occupancy = t.occupancy)
    (inputs : s.inputs = t.inputs) (heads : s.heads = t.heads) (node : s.node = t.node) (counters : s.counters = t.counters)
    (events : s.events = t.events) (store : s.store = t.store) (port : s.port = t.port) (pending : s.pending = t.pending) : s = t := by
  cases s
  cases t
  simp_all

end Sys2Proof.Machine
end

