-- ==== Sys2Proof/Laws/Frames.lean ====
section
/-! SUPPORT. What the operations of counting, light, occupancy, settings and the queue leave unchanged, block by block. -/

namespace Sys2Proof.Machine

open Sys2Proof

/-- What every turn of a fold leaves as it was, the whole fold does. -/
theorem foldl_keep {α β γ : Type} (g : β → γ) (f : β → α → β) (h : ∀ b a, g (f b a) = g b) (l : List α) (b : β) : g (l.foldl f b) = g b := by
  induction l generalizing b with
  | nil => rfl
  | cons a l ih => rw [List.foldl_cons, ih, h]

/-- What every turn of a fold keeps true, the whole fold does. -/
theorem foldl_inv {α β : Type} (P : β → Prop) (f : β → α → β) (h : ∀ b a, P b → P (f b a)) (l : List α) (b : β) (hb : P b) : P (l.foldl f b) := by
  induction l generalizing b with
  | nil => exact hb
  | cons a l ih => exact ih _ (h b a hb)

/-- What `raise` leaves as it was. -/
@[simp] theorem raise_frame (e : Event) (s : State) :
    (raise e s).pins = s.pins ∧ (raise e s).lanes = s.lanes ∧ (raise e s).filter = s.filter ∧ (raise e s).presence = s.presence ∧
    (raise e s).zoneStore = s.zoneStore ∧ (raise e s).catchUp = s.catchUp ∧ (raise e s).tx = s.tx ∧ (raise e s).occupancy = s.occupancy ∧
    (raise e s).inputs = s.inputs ∧ (raise e s).heads = s.heads ∧ (raise e s).node = s.node ∧ (raise e s).counters = s.counters ∧
    (raise e s).store = s.store ∧ (raise e s).port = s.port ∧ (raise e s).pending = s.pending := by
  simp [raise]

/-- What `countAt` leaves as it was. -/
@[simp] theorem countAt_frame (i : Fin 28) (s : State) :
    (countAt i s).pins = s.pins ∧ (countAt i s).lanes = s.lanes ∧ (countAt i s).filter = s.filter ∧ (countAt i s).presence = s.presence ∧
    (countAt i s).zoneStore = s.zoneStore ∧ (countAt i s).catchUp = s.catchUp ∧ (countAt i s).tx = s.tx ∧ (countAt i s).occupancy = s.occupancy ∧
    (countAt i s).inputs = s.inputs ∧ (countAt i s).heads = s.heads ∧ (countAt i s).node = s.node ∧ (countAt i s).store = s.store ∧
    (countAt i s).port = s.port ∧ (countAt i s).pending = s.pending := by
  unfold countAt
  dsimp only
  (repeat' split) <;> simp

/-- What `countLane` leaves as it was. -/
@[simp] theorem countLane_frame (L : Lane) (c : LaneCounter) (s : State) :
    (countLane L c s).pins = s.pins ∧ (countLane L c s).lanes = s.lanes ∧ (countLane L c s).filter = s.filter ∧ (countLane L c s).presence = s.presence ∧
    (countLane L c s).zoneStore = s.zoneStore ∧ (countLane L c s).catchUp = s.catchUp ∧ (countLane L c s).tx = s.tx ∧
    (countLane L c s).occupancy = s.occupancy ∧ (countLane L c s).inputs = s.inputs ∧ (countLane L c s).heads = s.heads ∧ (countLane L c s).node = s.node ∧
    (countLane L c s).store = s.store ∧ (countLane L c s).port = s.port ∧ (countLane L c s).pending = s.pending := by
  simp [countLane]

/-- What `countNode` leaves as it was. -/
@[simp] theorem countNode_frame (c : NodeCounter) (s : State) :
    (countNode c s).pins = s.pins ∧ (countNode c s).lanes = s.lanes ∧ (countNode c s).filter = s.filter ∧ (countNode c s).presence = s.presence ∧
    (countNode c s).zoneStore = s.zoneStore ∧ (countNode c s).catchUp = s.catchUp ∧ (countNode c s).tx = s.tx ∧ (countNode c s).occupancy = s.occupancy ∧
    (countNode c s).inputs = s.inputs ∧ (countNode c s).heads = s.heads ∧ (countNode c s).node = s.node ∧ (countNode c s).store = s.store ∧
    (countNode c s).port = s.port ∧ (countNode c s).pending = s.pending := by
  simp [countNode]

/-- What `recomputeWhere` leaves as it was. -/
@[simp] theorem recomputeWhere_frame (p : Zone → Bool) (code : FadeCode) (s : State) :
    (recomputeWhere p code s).pins = s.pins ∧ (recomputeWhere p code s).lanes = s.lanes ∧ (recomputeWhere p code s).filter = s.filter ∧
    (recomputeWhere p code s).presence = s.presence ∧ (recomputeWhere p code s).zoneStore = s.zoneStore ∧ (recomputeWhere p code s).catchUp = s.catchUp ∧
    (recomputeWhere p code s).tx = s.tx ∧ (recomputeWhere p code s).occupancy = s.occupancy ∧ (recomputeWhere p code s).inputs = s.inputs ∧
    (recomputeWhere p code s).node = s.node ∧ (recomputeWhere p code s).counters = s.counters ∧ (recomputeWhere p code s).events = s.events ∧
    (recomputeWhere p code s).store = s.store ∧ (recomputeWhere p code s).port = s.port ∧ (recomputeWhere p code s).pending = s.pending := by
  unfold recomputeWhere
  (repeat' split) <;> simp

/-- What `recomputeHeads` leaves as it was. -/
@[simp] theorem recomputeHeads_frame (z : Zone) (code : FadeCode) (s : State) :
    (recomputeHeads z code s).pins = s.pins ∧ (recomputeHeads z code s).lanes = s.lanes ∧ (recomputeHeads z code s).filter = s.filter ∧
    (recomputeHeads z code s).presence = s.presence ∧ (recomputeHeads z code s).zoneStore = s.zoneStore ∧ (recomputeHeads z code s).catchUp = s.catchUp ∧
    (recomputeHeads z code s).tx = s.tx ∧ (recomputeHeads z code s).occupancy = s.occupancy ∧ (recomputeHeads z code s).inputs = s.inputs ∧
    (recomputeHeads z code s).node = s.node ∧ (recomputeHeads z code s).counters = s.counters ∧ (recomputeHeads z code s).events = s.events ∧
    (recomputeHeads z code s).store = s.store ∧ (recomputeHeads z code s).port = s.port ∧ (recomputeHeads z code s).pending = s.pending := by
  simp [recomputeHeads]

/-- What `putOccupancy` leaves as it was. -/
@[simp] theorem putOccupancy_frame (z : Zone) (r : OccupancyRecord) (s : State) :
    (putOccupancy z r s).pins = s.pins ∧ (putOccupancy z r s).lanes = s.lanes ∧ (putOccupancy z r s).filter = s.filter ∧
    (putOccupancy z r s).presence = s.presence ∧ (putOccupancy z r s).zoneStore = s.zoneStore ∧ (putOccupancy z r s).catchUp = s.catchUp ∧
    (putOccupancy z r s).tx = s.tx ∧ (putOccupancy z r s).inputs = s.inputs ∧ (putOccupancy z r s).heads = s.heads ∧ (putOccupancy z r s).node = s.node ∧
    (putOccupancy z r s).counters = s.counters ∧ (putOccupancy z r s).events = s.events ∧ (putOccupancy z r s).store = s.store ∧
    (putOccupancy z r s).port = s.port ∧ (putOccupancy z r s).pending = s.pending := by
  simp [putOccupancy]

/-- What `changeOccupancy` leaves as it was. -/
@[simp] theorem changeOccupancy_frame (z : Zone) (r : OccupancyRecord) (s : State) :
    (changeOccupancy z r s).pins = s.pins ∧ (changeOccupancy z r s).lanes = s.lanes ∧ (changeOccupancy z r s).filter = s.filter ∧
    (changeOccupancy z r s).presence = s.presence ∧ (changeOccupancy z r s).zoneStore = s.zoneStore ∧ (changeOccupancy z r s).catchUp = s.catchUp ∧
    (changeOccupancy z r s).tx = s.tx ∧ (changeOccupancy z r s).inputs = s.inputs ∧ (changeOccupancy z r s).node = s.node ∧
    (changeOccupancy z r s).counters = s.counters ∧ (changeOccupancy z r s).store = s.store ∧ (changeOccupancy z r s).port = s.port ∧
    (changeOccupancy z r s).pending = s.pending := by
  unfold changeOccupancy
  dsimp only
  (repeat' split) <;> simp

/-- What `wake` leaves as it was. -/
@[simp] theorem wake_frame (cause : WakeCause) (z : Zone) (s : State) :
    (wake cause z s).pins = s.pins ∧ (wake cause z s).lanes = s.lanes ∧ (wake cause z s).filter = s.filter ∧ (wake cause z s).presence = s.presence ∧
    (wake cause z s).zoneStore = s.zoneStore ∧ (wake cause z s).catchUp = s.catchUp ∧ (wake cause z s).tx = s.tx ∧ (wake cause z s).inputs = s.inputs ∧
    (wake cause z s).node = s.node ∧ (wake cause z s).counters = s.counters ∧ (wake cause z s).store = s.store ∧ (wake cause z s).port = s.port ∧
    (wake cause z s).pending = s.pending := by
  unfold wake
  dsimp only
  (repeat' split) <;> simp

/-- What `wakeAll` leaves as it was. -/
@[simp] theorem wakeAll_frame (cause : WakeCause) (zones : List Zone) (s : State) :
    (wakeAll cause zones s).pins = s.pins ∧ (wakeAll cause zones s).lanes = s.lanes ∧ (wakeAll cause zones s).filter = s.filter ∧
    (wakeAll cause zones s).presence = s.presence ∧ (wakeAll cause zones s).zoneStore = s.zoneStore ∧ (wakeAll cause zones s).catchUp = s.catchUp ∧
    (wakeAll cause zones s).tx = s.tx ∧ (wakeAll cause zones s).inputs = s.inputs ∧ (wakeAll cause zones s).node = s.node ∧
    (wakeAll cause zones s).counters = s.counters ∧ (wakeAll cause zones s).store = s.store ∧ (wakeAll cause zones s).port = s.port ∧
    (wakeAll cause zones s).pending = s.pending := by
  unfold wakeAll
  exact ⟨foldl_keep State.pins _ (by intros; simp) _ _, foldl_keep State.lanes _ (by intros; simp) _ _, foldl_keep State.filter _ (by intros; simp) _ _, foldl_keep State.presence _ (by intros; simp) _ _, foldl_keep State.zoneStore _ (by intros; simp) _ _, foldl_keep State.catchUp _ (by intros; simp) _ _, foldl_keep State.tx _ (by intros; simp) _ _, foldl_keep State.inputs _ (by intros; simp) _ _, foldl_keep State.node _ (by intros; simp) _ _, foldl_keep State.counters _ (by intros; simp) _ _, foldl_keep State.store _ (by intros; simp) _ _, foldl_keep State.port _ (by intros; simp) _ _, foldl_keep State.pending _ (by intros; simp) _ _⟩

/-- What `wakeSet` leaves as it was. -/
@[simp] theorem wakeSet_frame (cause : WakeCause) (zones : ZoneSet) (s : State) :
    (wakeSet cause zones s).pins = s.pins ∧ (wakeSet cause zones s).lanes = s.lanes ∧ (wakeSet cause zones s).filter = s.filter ∧
    (wakeSet cause zones s).presence = s.presence ∧ (wakeSet cause zones s).zoneStore = s.zoneStore ∧ (wakeSet cause zones s).catchUp = s.catchUp ∧
    (wakeSet cause zones s).tx = s.tx ∧ (wakeSet cause zones s).inputs = s.inputs ∧ (wakeSet cause zones s).node = s.node ∧
    (wakeSet cause zones s).counters = s.counters ∧ (wakeSet cause zones s).store = s.store ∧ (wakeSet cause zones s).port = s.port ∧
    (wakeSet cause zones s).pending = s.pending := by
  simp [wakeSet]

/-- What `occupyEnabled` leaves as it was. -/
@[simp] theorem occupyEnabled_frame (s : State) :
    (occupyEnabled s).pins = s.pins ∧ (occupyEnabled s).lanes = s.lanes ∧ (occupyEnabled s).filter = s.filter ∧ (occupyEnabled s).presence = s.presence ∧
    (occupyEnabled s).zoneStore = s.zoneStore ∧ (occupyEnabled s).catchUp = s.catchUp ∧ (occupyEnabled s).tx = s.tx ∧ (occupyEnabled s).inputs = s.inputs ∧
    (occupyEnabled s).heads = s.heads ∧ (occupyEnabled s).node = s.node ∧ (occupyEnabled s).counters = s.counters ∧ (occupyEnabled s).store = s.store ∧
    (occupyEnabled s).port = s.port ∧ (occupyEnabled s).pending = s.pending := by
  unfold occupyEnabled
  dsimp only
  (repeat' split) <;> simp

/-- What `raiseClock` leaves as it was. -/
@[simp] theorem raiseClock_frame (x : Word32) (s : State) :
    (raiseClock x s).pins = s.pins ∧ (raiseClock x s).lanes = s.lanes ∧ (raiseClock x s).filter = s.filter ∧ (raiseClock x s).presence = s.presence ∧
    (raiseClock x s).catchUp = s.catchUp ∧ (raiseClock x s).tx = s.tx ∧ (raiseClock x s).occupancy = s.occupancy ∧ (raiseClock x s).inputs = s.inputs ∧
    (raiseClock x s).heads = s.heads ∧ (raiseClock x s).node = s.node ∧ (raiseClock x s).counters = s.counters ∧ (raiseClock x s).events = s.events ∧
    (raiseClock x s).store = s.store ∧ (raiseClock x s).port = s.port ∧ (raiseClock x s).pending = s.pending := by
  unfold raiseClock
  (repeat' split) <;> simp

/-- What `replaceEntry` leaves as it was. -/
@[simp] theorem replaceEntry_frame (z : Zone) (x : Setting) (s : State) :
    (replaceEntry z x s).pins = s.pins ∧ (replaceEntry z x s).lanes = s.lanes ∧ (replaceEntry z x s).filter = s.filter ∧
    (replaceEntry z x s).presence = s.presence ∧ (replaceEntry z x s).catchUp = s.catchUp ∧ (replaceEntry z x s).tx = s.tx ∧
    (replaceEntry z x s).occupancy = s.occupancy ∧ (replaceEntry z x s).inputs = s.inputs ∧ (replaceEntry z x s).node = s.node ∧
    (replaceEntry z x s).counters = s.counters ∧ (replaceEntry z x s).store = s.store ∧ (replaceEntry z x s).port = s.port ∧
    (replaceEntry z x s).pending = s.pending := by
  simp [replaceEntry]

/-- What `merge` leaves as it was. -/
@[simp] theorem merge_frame (z : Zone) (x : Setting) (s : State) :
    (merge z x s).pins = s.pins ∧ (merge z x s).lanes = s.lanes ∧ (merge z x s).filter = s.filter ∧ (merge z x s).presence = s.presence ∧
    (merge z x s).catchUp = s.catchUp ∧ (merge z x s).tx = s.tx ∧ (merge z x s).occupancy = s.occupancy ∧ (merge z x s).inputs = s.inputs ∧
    (merge z x s).node = s.node ∧ (merge z x s).store = s.store ∧ (merge z x s).port = s.port ∧ (merge z x s).pending = s.pending := by
  unfold merge
  dsimp only
  (repeat' split) <;> simp

/-- What `mergeLook` leaves as it was. -/
@[simp] theorem mergeLook_frame (look : Look) (stamp : Word32) (origin : Station) (s : State) :
    (mergeLook look stamp origin s).pins = s.pins ∧ (mergeLook look stamp origin s).lanes = s.lanes ∧ (mergeLook look stamp origin s).filter = s.filter ∧
    (mergeLook look stamp origin s).presence = s.presence ∧ (mergeLook look stamp origin s).catchUp = s.catchUp ∧
    (mergeLook look stamp origin s).tx = s.tx ∧ (mergeLook look stamp origin s).occupancy = s.occupancy ∧
    (mergeLook look stamp origin s).inputs = s.inputs ∧ (mergeLook look stamp origin s).node = s.node ∧ (mergeLook look stamp origin s).store = s.store ∧
    (mergeLook look stamp origin s).port = s.port ∧ (mergeLook look stamp origin s).pending = s.pending := by
  unfold mergeLook
  exact ⟨foldl_keep State.pins _ (by intros; simp) _ _, foldl_keep State.lanes _ (by intros; simp) _ _, foldl_keep State.filter _ (by intros; simp) _ _, foldl_keep State.presence _ (by intros; simp) _ _, foldl_keep State.catchUp _ (by intros; simp) _ _, foldl_keep State.tx _ (by intros; simp) _ _, foldl_keep State.occupancy _ (by intros; simp) _ _, foldl_keep State.inputs _ (by intros; simp) _ _, foldl_keep State.node _ (by intros; simp) _ _, foldl_keep State.store _ (by intros; simp) _ _, foldl_keep State.port _ (by intros; simp) _ _, foldl_keep State.pending _ (by intros; simp) _ _⟩

/-- What `takeStamp` leaves as it was. -/
@[simp] theorem takeStamp_frame (s : State) :
    ((takeStamp s).2).pins = s.pins ∧ ((takeStamp s).2).lanes = s.lanes ∧ ((takeStamp s).2).filter = s.filter ∧ ((takeStamp s).2).presence = s.presence ∧
    ((takeStamp s).2).catchUp = s.catchUp ∧ ((takeStamp s).2).tx = s.tx ∧ ((takeStamp s).2).occupancy = s.occupancy ∧ ((takeStamp s).2).inputs = s.inputs ∧
    ((takeStamp s).2).heads = s.heads ∧ ((takeStamp s).2).node = s.node ∧ ((takeStamp s).2).counters = s.counters ∧ ((takeStamp s).2).events = s.events ∧
    ((takeStamp s).2).store = s.store ∧ ((takeStamp s).2).port = s.port ∧ ((takeStamp s).2).pending = s.pending := by
  unfold takeStamp
  (repeat' split) <;> simp

/-- What `enterRecord` leaves as it was. -/
@[simp] theorem enterRecord_frame (p : Payload) (x : Word32) (c : PerLane CopyState) (s : State) :
    (enterRecord p x c s).pins = s.pins ∧ (enterRecord p x c s).lanes = s.lanes ∧ (enterRecord p x c s).filter = s.filter ∧
    (enterRecord p x c s).presence = s.presence ∧ (enterRecord p x c s).zoneStore = s.zoneStore ∧ (enterRecord p x c s).catchUp = s.catchUp ∧
    (enterRecord p x c s).occupancy = s.occupancy ∧ (enterRecord p x c s).inputs = s.inputs ∧ (enterRecord p x c s).heads = s.heads ∧
    (enterRecord p x c s).node = s.node ∧ (enterRecord p x c s).counters = s.counters ∧ (enterRecord p x c s).events = s.events ∧
    (enterRecord p x c s).store = s.store ∧ (enterRecord p x c s).port = s.port ∧ (enterRecord p x c s).pending = s.pending := by
  simp [enterRecord]

/-- What `dropRecord` leaves as it was. -/
@[simp] theorem dropRecord_frame (s : State) :
    (dropRecord s).pins = s.pins ∧ (dropRecord s).lanes = s.lanes ∧ (dropRecord s).filter = s.filter ∧ (dropRecord s).presence = s.presence ∧
    (dropRecord s).zoneStore = s.zoneStore ∧ (dropRecord s).catchUp = s.catchUp ∧ (dropRecord s).tx = s.tx ∧ (dropRecord s).occupancy = s.occupancy ∧
    (dropRecord s).inputs = s.inputs ∧ (dropRecord s).heads = s.heads ∧ (dropRecord s).node = s.node ∧ (dropRecord s).store = s.store ∧
    (dropRecord s).port = s.port ∧ (dropRecord s).pending = s.pending := by
  simp [dropRecord]

/-- What `offerRecord` leaves as it was. -/
@[simp] theorem offerRecord_frame (p : Payload) (x : Word32) (s : State) :
    ((offerRecord p x s).state).pins = s.pins ∧ ((offerRecord p x s).state).lanes = s.lanes ∧ ((offerRecord p x s).state).filter = s.filter ∧
    ((offerRecord p x s).state).presence = s.presence ∧ ((offerRecord p x s).state).zoneStore = s.zoneStore ∧
    ((offerRecord p x s).state).catchUp = s.catchUp ∧ ((offerRecord p x s).state).occupancy = s.occupancy ∧ ((offerRecord p x s).state).inputs = s.inputs ∧
    ((offerRecord p x s).state).heads = s.heads ∧ ((offerRecord p x s).state).node = s.node ∧ ((offerRecord p x s).state).store = s.store ∧
    ((offerRecord p x s).state).port = s.port ∧ ((offerRecord p x s).state).pending = s.pending := by
  unfold offerRecord
  dsimp only
  (repeat' split) <;> simp

/-- What `putLane` leaves as it was. -/
@[simp] theorem putLane_frame (L : Lane) (x : LaneInterface) (s : State) :
    (putLane L x s).pins = s.pins ∧ (putLane L x s).filter = s.filter ∧ (putLane L x s).presence = s.presence ∧ (putLane L x s).zoneStore = s.zoneStore ∧
    (putLane L x s).catchUp = s.catchUp ∧ (putLane L x s).tx = s.tx ∧ (putLane L x s).occupancy = s.occupancy ∧ (putLane L x s).inputs = s.inputs ∧
    (putLane L x s).heads = s.heads ∧ (putLane L x s).node = s.node ∧ (putLane L x s).counters = s.counters ∧ (putLane L x s).events = s.events ∧
    (putLane L x s).store = s.store ∧ (putLane L x s).port = s.port ∧ (putLane L x s).pending = s.pending := by
  simp [putLane]

/-- What `changeInFlight` leaves as it was. -/
@[simp] theorem changeInFlight_frame (L : Lane) (f : TxRecord → TxRecord) (s : State) :
    (changeInFlight L f s).pins = s.pins ∧ (changeInFlight L f s).lanes = s.lanes ∧ (changeInFlight L f s).filter = s.filter ∧
    (changeInFlight L f s).presence = s.presence ∧ (changeInFlight L f s).zoneStore = s.zoneStore ∧ (changeInFlight L f s).catchUp = s.catchUp ∧
    (changeInFlight L f s).occupancy = s.occupancy ∧ (changeInFlight L f s).inputs = s.inputs ∧ (changeInFlight L f s).heads = s.heads ∧
    (changeInFlight L f s).node = s.node ∧ (changeInFlight L f s).counters = s.counters ∧ (changeInFlight L f s).events = s.events ∧
    (changeInFlight L f s).store = s.store ∧ (changeInFlight L f s).port = s.port ∧ (changeInFlight L f s).pending = s.pending := by
  simp [changeInFlight]

end Sys2Proof.Machine
end

