-- ==== Sys2Proof/Laws/BlockFrames.lean ====
section
/-! SUPPORT. What the operations of publishing, catch-up, lanes, receiving, inputs and start-up leave unchanged, block by block. -/

namespace Sys2Proof.Machine

open Sys2Proof

/-- What `performSet` leaves as it was. -/
@[simp] theorem performSet_frame (z : Zone) (c : Colour) (l : Byte) (f : FadeCode) (w : Bool) (cause : WakeCause) (s : State) :
    ((performSet z c l f w cause s).state).pins = s.pins ∧ ((performSet z c l f w cause s).state).lanes = s.lanes ∧
    ((performSet z c l f w cause s).state).filter = s.filter ∧ ((performSet z c l f w cause s).state).presence = s.presence ∧
    ((performSet z c l f w cause s).state).catchUp = s.catchUp ∧ ((performSet z c l f w cause s).state).inputs = s.inputs ∧
    ((performSet z c l f w cause s).state).node = s.node ∧ ((performSet z c l f w cause s).state).store = s.store ∧
    ((performSet z c l f w cause s).state).port = s.port ∧ ((performSet z c l f w cause s).state).pending = s.pending := by
  unfold performSet
  have h := takeStamp_frame s
  split
  · next heq => rw [heq] at h; dsimp only at h; simp [h]
  · next heq => rw [heq] at h; dsimp only at h; dsimp only [publishedBy]; split <;> simp [h]

/-- What `performRecall` leaves as it was. -/
@[simp] theorem performRecall_frame (k : Look) (w : Bool) (cause : WakeCause) (s : State) :
    ((performRecall k w cause s).state).pins = s.pins ∧ ((performRecall k w cause s).state).lanes = s.lanes ∧
    ((performRecall k w cause s).state).filter = s.filter ∧ ((performRecall k w cause s).state).presence = s.presence ∧
    ((performRecall k w cause s).state).catchUp = s.catchUp ∧ ((performRecall k w cause s).state).inputs = s.inputs ∧
    ((performRecall k w cause s).state).node = s.node ∧ ((performRecall k w cause s).state).store = s.store ∧
    ((performRecall k w cause s).state).port = s.port ∧ ((performRecall k w cause s).state).pending = s.pending := by
  unfold performRecall
  have h := takeStamp_frame s
  split
  · simp
  · split
    · next heq => rw [heq] at h; dsimp only at h; simp [h]
    · next heq => rw [heq] at h; dsimp only at h; dsimp only [publishedBy]; split <;> simp [h]

/-- What `performOccupy` leaves as it was. -/
@[simp] theorem performOccupy_frame (zones : ZoneSet) (cause : WakeCause) (s : State) :
    ((performOccupy zones cause s).state).pins = s.pins ∧ ((performOccupy zones cause s).state).lanes = s.lanes ∧
    ((performOccupy zones cause s).state).filter = s.filter ∧ ((performOccupy zones cause s).state).presence = s.presence ∧
    ((performOccupy zones cause s).state).catchUp = s.catchUp ∧ ((performOccupy zones cause s).state).inputs = s.inputs ∧
    ((performOccupy zones cause s).state).node = s.node ∧ ((performOccupy zones cause s).state).store = s.store ∧
    ((performOccupy zones cause s).state).port = s.port ∧ ((performOccupy zones cause s).state).pending = s.pending := by
  simp [performOccupy, publishedBy]

/-- What `performAction` leaves as it was. -/
@[simp] theorem performAction_frame (k : ActionKind) (z : Zone) (n : Nat) (s : State) :
    ((performAction k z n s).state).pins = s.pins ∧ ((performAction k z n s).state).lanes = s.lanes ∧ ((performAction k z n s).state).filter = s.filter ∧
    ((performAction k z n s).state).presence = s.presence ∧ ((performAction k z n s).state).catchUp = s.catchUp ∧
    ((performAction k z n s).state).inputs = s.inputs ∧ ((performAction k z n s).state).node = s.node ∧ ((performAction k z n s).state).store = s.store ∧
    ((performAction k z n s).state).port = s.port ∧ ((performAction k z n s).state).pending = s.pending := by
  simp [performAction]

/-- What `performHeld` leaves as it was. -/
@[simp] theorem performHeld_frame (h : HeldRequest) (s : State) :
    ((performHeld h s).state).pins = s.pins ∧ ((performHeld h s).state).lanes = s.lanes ∧ ((performHeld h s).state).filter = s.filter ∧
    ((performHeld h s).state).presence = s.presence ∧ ((performHeld h s).state).catchUp = s.catchUp ∧ ((performHeld h s).state).inputs = s.inputs ∧
    ((performHeld h s).state).node = s.node ∧ ((performHeld h s).state).store = s.store ∧ ((performHeld h s).state).port = s.port ∧
    ((performHeld h s).state).pending = s.pending := by
  unfold performHeld
  split <;> simp

/-- What `createPresence` leaves as it was. -/
@[simp] theorem createPresence_frame (s : State) :
    (createPresence s).pins = s.pins ∧ (createPresence s).lanes = s.lanes ∧ (createPresence s).filter = s.filter ∧
    (createPresence s).presence = s.presence ∧ (createPresence s).zoneStore = s.zoneStore ∧ (createPresence s).catchUp = s.catchUp ∧
    (createPresence s).occupancy = s.occupancy ∧ (createPresence s).inputs = s.inputs ∧ (createPresence s).heads = s.heads ∧
    (createPresence s).node = s.node ∧ (createPresence s).store = s.store ∧ (createPresence s).port = s.port ∧ (createPresence s).pending = s.pending := by
  unfold createPresence
  (repeat' split) <;> simp

/-- What `releaseHeld` leaves as it was. -/
@[simp] theorem releaseHeld_frame (s : State) :
    (releaseHeld s).pins = s.pins ∧ (releaseHeld s).lanes = s.lanes ∧ (releaseHeld s).filter = s.filter ∧ (releaseHeld s).presence = s.presence ∧
    (releaseHeld s).inputs = s.inputs ∧ (releaseHeld s).node = s.node ∧ (releaseHeld s).store = s.store ∧ (releaseHeld s).port = s.port ∧
    (releaseHeld s).pending = s.pending := by
  unfold releaseHeld
  generalize s.catchUp.held = l
  exact ⟨(foldl_keep State.pins _ (by intros; simp) _ _).trans (by simp), (foldl_keep State.lanes _ (by intros; simp) _ _).trans (by simp), (foldl_keep State.filter _ (by intros; simp) _ _).trans (by simp), (foldl_keep State.presence _ (by intros; simp) _ _).trans (by simp), (foldl_keep State.inputs _ (by intros; simp) _ _).trans (by simp), (foldl_keep State.node _ (by intros; simp) _ _).trans (by simp), (foldl_keep State.store _ (by intros; simp) _ _).trans (by simp), (foldl_keep State.port _ (by intros; simp) _ _).trans (by simp), (foldl_keep State.pending _ (by intros; simp) _ _).trans (by simp)⟩

/-- What `enterRunning` leaves as it was. -/
@[simp] theorem enterRunning_frame (how : Completion) (s : State) :
    (enterRunning how s).pins = s.pins ∧ (enterRunning how s).lanes = s.lanes ∧ (enterRunning how s).filter = s.filter ∧
    (enterRunning how s).presence = s.presence ∧ (enterRunning how s).inputs = s.inputs ∧ (enterRunning how s).store = s.store ∧
    (enterRunning how s).port = s.port ∧ (enterRunning how s).pending = s.pending := by
  simp [enterRunning]

/-- What `offerAsk` leaves as it was. -/
@[simp] theorem offerAsk_frame (s : State) :
    ((offerAsk s).state).pins = s.pins ∧ ((offerAsk s).state).lanes = s.lanes ∧ ((offerAsk s).state).filter = s.filter ∧
    ((offerAsk s).state).presence = s.presence ∧ ((offerAsk s).state).zoneStore = s.zoneStore ∧ ((offerAsk s).state).catchUp = s.catchUp ∧
    ((offerAsk s).state).occupancy = s.occupancy ∧ ((offerAsk s).state).inputs = s.inputs ∧ ((offerAsk s).state).heads = s.heads ∧
    ((offerAsk s).state).node = s.node ∧ ((offerAsk s).state).store = s.store ∧ ((offerAsk s).state).port = s.port ∧
    ((offerAsk s).state).pending = s.pending := by
  simp [offerAsk]

/-- What `askFailed` leaves as it was. -/
@[simp] theorem askFailed_frame (s : State) :
    (askFailed s).pins = s.pins ∧ (askFailed s).lanes = s.lanes ∧ (askFailed s).filter = s.filter ∧ (askFailed s).presence = s.presence ∧
    (askFailed s).inputs = s.inputs ∧ (askFailed s).store = s.store ∧ (askFailed s).port = s.port ∧ (askFailed s).pending = s.pending := by
  unfold askFailed
  dsimp only
  (repeat' split) <;> simp

/-- What `askSent` leaves as it was. -/
@[simp] theorem askSent_frame (s : State) :
    (askSent s).pins = s.pins ∧ (askSent s).lanes = s.lanes ∧ (askSent s).filter = s.filter ∧ (askSent s).presence = s.presence ∧
    (askSent s).zoneStore = s.zoneStore ∧ (askSent s).tx = s.tx ∧ (askSent s).occupancy = s.occupancy ∧ (askSent s).inputs = s.inputs ∧
    (askSent s).heads = s.heads ∧ (askSent s).node = s.node ∧ (askSent s).counters = s.counters ∧ (askSent s).events = s.events ∧
    (askSent s).store = s.store ∧ (askSent s).port = s.port ∧ (askSent s).pending = s.pending := by
  unfold askSent
  (repeat' split) <;> simp

/-- What `enterCatchUp` leaves as it was. -/
@[simp] theorem enterCatchUp_frame (s : State) :
    (enterCatchUp s).pins = s.pins ∧ (enterCatchUp s).lanes = s.lanes ∧ (enterCatchUp s).filter = s.filter ∧ (enterCatchUp s).presence = s.presence ∧
    (enterCatchUp s).inputs = s.inputs ∧ (enterCatchUp s).store = s.store ∧ (enterCatchUp s).port = s.port ∧ (enterCatchUp s).pending = s.pending := by
  unfold enterCatchUp
  dsimp only
  (repeat' split) <;> simp

/-- What `reportLost` leaves as it was. -/
@[simp] theorem reportLost_frame (b : Bool) (s : State) :
    (reportLost b s).pins = s.pins ∧ (reportLost b s).lanes = s.lanes ∧ (reportLost b s).filter = s.filter ∧ (reportLost b s).presence = s.presence ∧
    (reportLost b s).inputs = s.inputs ∧ (reportLost b s).store = s.store ∧ (reportLost b s).port = s.port ∧ (reportLost b s).pending = s.pending := by
  unfold reportLost
  (repeat' split) <;> simp

/-- What `appendHeld` leaves as it was. -/
@[simp] theorem appendHeld_frame (h : HeldRequest) (s : State) :
    ((appendHeld h s).state).pins = s.pins ∧ ((appendHeld h s).state).lanes = s.lanes ∧ ((appendHeld h s).state).filter = s.filter ∧
    ((appendHeld h s).state).presence = s.presence ∧ ((appendHeld h s).state).zoneStore = s.zoneStore ∧ ((appendHeld h s).state).tx = s.tx ∧
    ((appendHeld h s).state).occupancy = s.occupancy ∧ ((appendHeld h s).state).inputs = s.inputs ∧ ((appendHeld h s).state).heads = s.heads ∧
    ((appendHeld h s).state).node = s.node ∧ ((appendHeld h s).state).store = s.store ∧ ((appendHeld h s).state).port = s.port ∧
    ((appendHeld h s).state).pending = s.pending := by
  unfold appendHeld
  (repeat' split) <;> simp

/-- What `holdRequest` leaves as it was. -/
@[simp] theorem holdRequest_frame (h : HeldRequest) (s : State) :
    ((holdRequest h s).state).pins = s.pins ∧ ((holdRequest h s).state).lanes = s.lanes ∧ ((holdRequest h s).state).filter = s.filter ∧
    ((holdRequest h s).state).presence = s.presence ∧ ((holdRequest h s).state).zoneStore = s.zoneStore ∧ ((holdRequest h s).state).tx = s.tx ∧
    ((holdRequest h s).state).occupancy = s.occupancy ∧ ((holdRequest h s).state).inputs = s.inputs ∧ ((holdRequest h s).state).heads = s.heads ∧
    ((holdRequest h s).state).node = s.node ∧ ((holdRequest h s).state).store = s.store ∧ ((holdRequest h s).state).port = s.port ∧
    ((holdRequest h s).state).pending = s.pending := by
  unfold holdRequest
  (repeat' split) <;> simp

/-- What `requestByPhase` leaves as it was. -/
@[simp] theorem requestByPhase_frame (h : HeldRequest) (s : State) :
    ((requestByPhase h s).state).pins = s.pins ∧ ((requestByPhase h s).state).lanes = s.lanes ∧ ((requestByPhase h s).state).filter = s.filter ∧
    ((requestByPhase h s).state).presence = s.presence ∧ ((requestByPhase h s).state).inputs = s.inputs ∧ ((requestByPhase h s).state).store = s.store ∧
    ((requestByPhase h s).state).port = s.port ∧ ((requestByPhase h s).state).pending = s.pending := by
  unfold requestByPhase
  split <;> simp [answerOf]

/-- What `requestOccupy` leaves as it was. -/
@[simp] theorem requestOccupy_frame (zones : ZoneSet) (cause : WakeCause) (s : State) :
    ((requestOccupy zones cause s).state).pins = s.pins ∧ ((requestOccupy zones cause s).state).lanes = s.lanes ∧
    ((requestOccupy zones cause s).state).filter = s.filter ∧ ((requestOccupy zones cause s).state).presence = s.presence ∧
    ((requestOccupy zones cause s).state).inputs = s.inputs ∧ ((requestOccupy zones cause s).state).store = s.store ∧
    ((requestOccupy zones cause s).state).port = s.port ∧ ((requestOccupy zones cause s).state).pending = s.pending := by
  unfold requestOccupy
  split <;> simp [answerOf]

/-- What `acceptAsk` leaves as it was. -/
@[simp] theorem acceptAsk_frame (w : ZoneSet) (s : State) :
    (acceptAsk w s).pins = s.pins ∧ (acceptAsk w s).lanes = s.lanes ∧ (acceptAsk w s).filter = s.filter ∧ (acceptAsk w s).presence = s.presence ∧
    (acceptAsk w s).zoneStore = s.zoneStore ∧ (acceptAsk w s).tx = s.tx ∧ (acceptAsk w s).occupancy = s.occupancy ∧ (acceptAsk w s).inputs = s.inputs ∧
    (acceptAsk w s).heads = s.heads ∧ (acceptAsk w s).node = s.node ∧ (acceptAsk w s).counters = s.counters ∧ (acceptAsk w s).events = s.events ∧
    (acceptAsk w s).store = s.store ∧ (acceptAsk w s).port = s.port ∧ (acceptAsk w s).pending = s.pending := by
  unfold acceptAsk
  (repeat' split) <;> simp

/-- What `strikeAnswers` leaves as it was. -/
@[simp] theorem strikeAnswers_frame (l : List SyncEntry) (s : State) :
    (strikeAnswers l s).pins = s.pins ∧ (strikeAnswers l s).lanes = s.lanes ∧ (strikeAnswers l s).filter = s.filter ∧
    (strikeAnswers l s).presence = s.presence ∧ (strikeAnswers l s).zoneStore = s.zoneStore ∧ (strikeAnswers l s).tx = s.tx ∧
    (strikeAnswers l s).occupancy = s.occupancy ∧ (strikeAnswers l s).inputs = s.inputs ∧ (strikeAnswers l s).heads = s.heads ∧
    (strikeAnswers l s).node = s.node ∧ (strikeAnswers l s).counters = s.counters ∧ (strikeAnswers l s).events = s.events ∧
    (strikeAnswers l s).store = s.store ∧ (strikeAnswers l s).port = s.port ∧ (strikeAnswers l s).pending = s.pending := by
  simp [strikeAnswers]

/-- What `settle` leaves as it was. -/
@[simp] theorem settle_frame (s : State) :
    (settle s).pins = s.pins ∧ (settle s).lanes = s.lanes ∧ (settle s).filter = s.filter ∧ (settle s).presence = s.presence ∧ (settle s).inputs = s.inputs ∧
    (settle s).store = s.store ∧ (settle s).port = s.port ∧ (settle s).pending = s.pending := by
  unfold settle
  generalize (s.tx.records.filter fun r => !r.live) = l
  exact ⟨(foldl_keep State.pins _ (by intros; simp) _ _).trans (by simp), (foldl_keep State.lanes _ (by intros; simp) _ _).trans (by simp), (foldl_keep State.filter _ (by intros; simp) _ _).trans (by simp), (foldl_keep State.presence _ (by intros; simp) _ _).trans (by simp), (foldl_keep State.inputs _ (by intros; simp) _ _).trans (by simp), (foldl_keep State.store _ (by intros; simp) _ _).trans (by simp), (foldl_keep State.port _ (by intros; simp) _ _).trans (by simp), (foldl_keep State.pending _ (by intros; simp) _ _).trans (by simp)⟩

/-- What `bringLaneUp` leaves as it was. -/
@[simp] theorem bringLaneUp_frame (L : Lane) (s : State) :
    (bringLaneUp L s).pins = s.pins ∧ (bringLaneUp L s).filter = s.filter ∧ (bringLaneUp L s).presence = s.presence ∧
    (bringLaneUp L s).zoneStore = s.zoneStore ∧ (bringLaneUp L s).catchUp = s.catchUp ∧ (bringLaneUp L s).tx = s.tx ∧
    (bringLaneUp L s).occupancy = s.occupancy ∧ (bringLaneUp L s).inputs = s.inputs ∧ (bringLaneUp L s).heads = s.heads ∧ (bringLaneUp L s).node = s.node ∧
    (bringLaneUp L s).counters = s.counters ∧ (bringLaneUp L s).store = s.store ∧ (bringLaneUp L s).port = s.port ∧ (bringLaneUp L s).pending = s.pending := by
  unfold bringLaneUp
  dsimp only
  (repeat' split) <;> simp

/-- What `takeLaneDown` leaves as it was. -/
@[simp] theorem takeLaneDown_frame (L : Lane) (s : State) :
    (takeLaneDown L s).pins = s.pins ∧ (takeLaneDown L s).filter = s.filter ∧ (takeLaneDown L s).presence = s.presence ∧
    (takeLaneDown L s).zoneStore = s.zoneStore ∧ (takeLaneDown L s).catchUp = s.catchUp ∧ (takeLaneDown L s).occupancy = s.occupancy ∧
    (takeLaneDown L s).inputs = s.inputs ∧ (takeLaneDown L s).heads = s.heads ∧ (takeLaneDown L s).node = s.node ∧ (takeLaneDown L s).store = s.store ∧
    (takeLaneDown L s).port = s.port ∧ (takeLaneDown L s).pending = s.pending := by
  unfold takeLaneDown
  dsimp only
  generalize (s.tx.records.filter (pendingOn L)) = l
  exact ⟨(State.setTx_pins _ _).trans ((foldl_keep State.pins _ (by intros; simp) _ _).trans (by simp)), (State.setTx_filter _ _).trans ((foldl_keep State.filter _ (by intros; simp) _ _).trans (by simp)), (State.setTx_presence _ _).trans ((foldl_keep State.presence _ (by intros; simp) _ _).trans (by simp)), (State.setTx_zoneStore _ _).trans ((foldl_keep State.zoneStore _ (by intros; simp) _ _).trans (by simp)), (State.setTx_catchUp _ _).trans ((foldl_keep State.catchUp _ (by intros; simp) _ _).trans (by simp)), (State.setTx_occupancy _ _).trans ((foldl_keep State.occupancy _ (by intros; simp) _ _).trans (by simp)), (State.setTx_inputs _ _).trans ((foldl_keep State.inputs _ (by intros; simp) _ _).trans (by simp)), (State.setTx_heads _ _).trans ((foldl_keep State.heads _ (by intros; simp) _ _).trans (by simp)), (State.setTx_node _ _).trans ((foldl_keep State.node _ (by intros; simp) _ _).trans (by simp)), (State.setTx_store _ _).trans ((foldl_keep State.store _ (by intros; simp) _ _).trans (by simp)), (State.setTx_port _ _).trans ((foldl_keep State.port _ (by intros; simp) _ _).trans (by simp)), (State.setTx_pending _ _).trans ((foldl_keep State.pending _ (by intros; simp) _ _).trans (by simp))⟩

/-- What `countAbandon` leaves as it was. -/
@[simp] theorem countAbandon_frame (L : Lane) (s : State) :
    (countAbandon L s).pins = s.pins ∧ (countAbandon L s).filter = s.filter ∧ (countAbandon L s).presence = s.presence ∧
    (countAbandon L s).zoneStore = s.zoneStore ∧ (countAbandon L s).catchUp = s.catchUp ∧ (countAbandon L s).occupancy = s.occupancy ∧
    (countAbandon L s).inputs = s.inputs ∧ (countAbandon L s).heads = s.heads ∧ (countAbandon L s).node = s.node ∧ (countAbandon L s).store = s.store ∧
    (countAbandon L s).port = s.port ∧ (countAbandon L s).pending = s.pending := by
  unfold countAbandon
  dsimp only
  (repeat' split) <;> simp

/-- What `failAttempt` leaves as it was. -/
@[simp] theorem failAttempt_frame (L : Lane) (s : State) :
    (failAttempt L s).pins = s.pins ∧ (failAttempt L s).filter = s.filter ∧ (failAttempt L s).presence = s.presence ∧ (failAttempt L s).inputs = s.inputs ∧
    (failAttempt L s).store = s.store ∧ (failAttempt L s).port = s.port ∧ (failAttempt L s).pending = s.pending := by
  unfold failAttempt
  dsimp only
  (repeat' split) <;> simp

/-- What `completeCopy` leaves as it was. -/
@[simp] theorem completeCopy_frame (L : Lane) (s : State) :
    (completeCopy L s).pins = s.pins ∧ (completeCopy L s).filter = s.filter ∧ (completeCopy L s).presence = s.presence ∧
    (completeCopy L s).inputs = s.inputs ∧ (completeCopy L s).store = s.store ∧ (completeCopy L s).port = s.port ∧ (completeCopy L s).pending = s.pending := by
  unfold completeCopy
  dsimp only
  (repeat' split) <;> simp

/-- What `setFaultLine` leaves as it was. -/
@[simp] theorem setFaultLine_frame (L : Lane) (b : Bool) (s : State) :
    (setFaultLine L b s).lanes = s.lanes ∧ (setFaultLine L b s).filter = s.filter ∧ (setFaultLine L b s).presence = s.presence ∧
    (setFaultLine L b s).zoneStore = s.zoneStore ∧ (setFaultLine L b s).catchUp = s.catchUp ∧ (setFaultLine L b s).tx = s.tx ∧
    (setFaultLine L b s).occupancy = s.occupancy ∧ (setFaultLine L b s).inputs = s.inputs ∧ (setFaultLine L b s).heads = s.heads ∧
    (setFaultLine L b s).node = s.node ∧ (setFaultLine L b s).counters = s.counters ∧ (setFaultLine L b s).events = s.events ∧
    (setFaultLine L b s).store = s.store ∧ (setFaultLine L b s).port = s.port ∧ (setFaultLine L b s).pending = s.pending := by
  simp [setFaultLine]

/-- What `abandonInFlight` leaves as it was. -/
@[simp] theorem abandonInFlight_frame (L : Lane) (s : State) :
    (abandonInFlight L s).pins = s.pins ∧ (abandonInFlight L s).lanes = s.lanes ∧ (abandonInFlight L s).filter = s.filter ∧
    (abandonInFlight L s).presence = s.presence ∧ (abandonInFlight L s).zoneStore = s.zoneStore ∧ (abandonInFlight L s).catchUp = s.catchUp ∧
    (abandonInFlight L s).occupancy = s.occupancy ∧ (abandonInFlight L s).inputs = s.inputs ∧ (abandonInFlight L s).heads = s.heads ∧
    (abandonInFlight L s).node = s.node ∧ (abandonInFlight L s).store = s.store ∧ (abandonInFlight L s).port = s.port ∧
    (abandonInFlight L s).pending = s.pending := by
  unfold abandonInFlight
  (repeat' split) <;> simp

/-- What `putPeer` leaves as it was. -/
@[simp] theorem putPeer_frame (n : Station) (r : PeerRecord) (s : State) :
    (putPeer n r s).pins = s.pins ∧ (putPeer n r s).lanes = s.lanes ∧ (putPeer n r s).filter = s.filter ∧ (putPeer n r s).zoneStore = s.zoneStore ∧
    (putPeer n r s).catchUp = s.catchUp ∧ (putPeer n r s).tx = s.tx ∧ (putPeer n r s).occupancy = s.occupancy ∧ (putPeer n r s).inputs = s.inputs ∧
    (putPeer n r s).heads = s.heads ∧ (putPeer n r s).node = s.node ∧ (putPeer n r s).counters = s.counters ∧ (putPeer n r s).events = s.events ∧
    (putPeer n r s).store = s.store ∧ (putPeer n r s).port = s.port ∧ (putPeer n r s).pending = s.pending := by
  simp [putPeer]

/-- What `agePeers` leaves as it was. -/
@[simp] theorem agePeers_frame (s : State) :
    (agePeers s).pins = s.pins ∧ (agePeers s).lanes = s.lanes ∧ (agePeers s).filter = s.filter ∧ (agePeers s).zoneStore = s.zoneStore ∧
    (agePeers s).catchUp = s.catchUp ∧ (agePeers s).tx = s.tx ∧ (agePeers s).occupancy = s.occupancy ∧ (agePeers s).inputs = s.inputs ∧
    (agePeers s).heads = s.heads ∧ (agePeers s).node = s.node ∧ (agePeers s).counters = s.counters ∧ (agePeers s).store = s.store ∧
    (agePeers s).port = s.port ∧ (agePeers s).pending = s.pending := by
  unfold agePeers
  dsimp only
  (repeat' split) <;> simp

/-- What `hearPeer` leaves as it was. -/
@[simp] theorem hearPeer_frame (L : Lane) (n : Station) (c : Bool) (s : State) :
    (hearPeer L n c s).pins = s.pins ∧ (hearPeer L n c s).lanes = s.lanes ∧ (hearPeer L n c s).filter = s.filter ∧
    (hearPeer L n c s).zoneStore = s.zoneStore ∧ (hearPeer L n c s).catchUp = s.catchUp ∧ (hearPeer L n c s).tx = s.tx ∧
    (hearPeer L n c s).occupancy = s.occupancy ∧ (hearPeer L n c s).inputs = s.inputs ∧ (hearPeer L n c s).heads = s.heads ∧
    (hearPeer L n c s).node = s.node ∧ (hearPeer L n c s).counters = s.counters ∧ (hearPeer L n c s).store = s.store ∧ (hearPeer L n c s).port = s.port ∧
    (hearPeer L n c s).pending = s.pending := by
  unfold hearPeer
  dsimp only
  (repeat' split) <;> simp

/-- What `acceptPresence` leaves as it was. -/
@[simp] theorem acceptPresence_frame (n : Station) (x : Word32) (c : Word16) (p : AnnouncedPhase) (i l : Bool) (s : State) :
    (acceptPresence n x c p i l s).pins = s.pins ∧ (acceptPresence n x c p i l s).lanes = s.lanes ∧ (acceptPresence n x c p i l s).filter = s.filter ∧
    (acceptPresence n x c p i l s).zoneStore = s.zoneStore ∧ (acceptPresence n x c p i l s).catchUp = s.catchUp ∧ (acceptPresence n x c p i l s).tx = s.tx ∧
    (acceptPresence n x c p i l s).occupancy = s.occupancy ∧ (acceptPresence n x c p i l s).inputs = s.inputs ∧
    (acceptPresence n x c p i l s).heads = s.heads ∧ (acceptPresence n x c p i l s).node = s.node ∧ (acceptPresence n x c p i l s).counters = s.counters ∧
    (acceptPresence n x c p i l s).store = s.store ∧ (acceptPresence n x c p i l s).port = s.port ∧ (acceptPresence n x c p i l s).pending = s.pending := by
  unfold acceptPresence
  dsimp only
  (repeat' split) <;> simp

/-- What `startPresenceTimer` leaves as it was. -/
@[simp] theorem startPresenceTimer_frame (s : State) :
    (startPresenceTimer s).pins = s.pins ∧ (startPresenceTimer s).lanes = s.lanes ∧ (startPresenceTimer s).filter = s.filter ∧
    (startPresenceTimer s).zoneStore = s.zoneStore ∧ (startPresenceTimer s).catchUp = s.catchUp ∧ (startPresenceTimer s).tx = s.tx ∧
    (startPresenceTimer s).occupancy = s.occupancy ∧ (startPresenceTimer s).inputs = s.inputs ∧ (startPresenceTimer s).heads = s.heads ∧
    (startPresenceTimer s).node = s.node ∧ (startPresenceTimer s).counters = s.counters ∧ (startPresenceTimer s).events = s.events ∧
    (startPresenceTimer s).store = s.store ∧ (startPresenceTimer s).port = s.port ∧ (startPresenceTimer s).pending = s.pending := by
  simp [startPresenceTimer]

/-- What `countListenExpiry` leaves as it was. -/
@[simp] theorem countListenExpiry_frame (s : State) :
    (countListenExpiry s).pins = s.pins ∧ (countListenExpiry s).lanes = s.lanes ∧ (countListenExpiry s).filter = s.filter ∧
    (countListenExpiry s).presence = s.presence ∧ (countListenExpiry s).inputs = s.inputs ∧ (countListenExpiry s).store = s.store ∧
    (countListenExpiry s).port = s.port ∧ (countListenExpiry s).pending = s.pending := by
  unfold countListenExpiry
  dsimp only
  (repeat' split) <;> simp

/-- What `enterMute` leaves as it was. -/
@[simp] theorem enterMute_frame (n : Station) (s : State) :
    (enterMute n s).pins = s.pins ∧ (enterMute n s).lanes = s.lanes ∧ (enterMute n s).filter = s.filter ∧ (enterMute n s).presence = s.presence ∧
    (enterMute n s).zoneStore = s.zoneStore ∧ (enterMute n s).occupancy = s.occupancy ∧ (enterMute n s).inputs = s.inputs ∧
    (enterMute n s).heads = s.heads ∧ (enterMute n s).counters = s.counters ∧ (enterMute n s).store = s.store ∧ (enterMute n s).port = s.port ∧
    (enterMute n s).pending = s.pending := by
  simp [enterMute]

/-- What `stationConflict` leaves as it was. -/
@[simp] theorem stationConflict_frame (n : Station) (s : State) :
    (stationConflict n s).pins = s.pins ∧ (stationConflict n s).lanes = s.lanes ∧ (stationConflict n s).filter = s.filter ∧
    (stationConflict n s).presence = s.presence ∧ (stationConflict n s).zoneStore = s.zoneStore ∧ (stationConflict n s).occupancy = s.occupancy ∧
    (stationConflict n s).inputs = s.inputs ∧ (stationConflict n s).heads = s.heads ∧ (stationConflict n s).counters = s.counters ∧
    (stationConflict n s).store = s.store ∧ (stationConflict n s).port = s.port ∧ (stationConflict n s).pending = s.pending := by
  unfold stationConflict
  (repeat' split) <;> simp

/-- What `acceptSet` leaves as it was. -/
@[simp] theorem acceptSet_frame (f : Frame) (z : Zone) (c : Colour) (l : Byte) (x : FadeCode) (w : Bool) (s : State) :
    (acceptSet f z c l x w s).pins = s.pins ∧ (acceptSet f z c l x w s).lanes = s.lanes ∧ (acceptSet f z c l x w s).filter = s.filter ∧
    (acceptSet f z c l x w s).presence = s.presence ∧ (acceptSet f z c l x w s).catchUp = s.catchUp ∧ (acceptSet f z c l x w s).tx = s.tx ∧
    (acceptSet f z c l x w s).inputs = s.inputs ∧ (acceptSet f z c l x w s).node = s.node ∧ (acceptSet f z c l x w s).store = s.store ∧
    (acceptSet f z c l x w s).port = s.port ∧ (acceptSet f z c l x w s).pending = s.pending := by
  unfold acceptSet
  dsimp only
  (repeat' split) <;> simp

/-- What `acceptRecall` leaves as it was. -/
@[simp] theorem acceptRecall_frame (f : Frame) (k : Look) (c : Word16) (w : Bool) (s : State) :
    (acceptRecall f k c w s).pins = s.pins ∧ (acceptRecall f k c w s).lanes = s.lanes ∧ (acceptRecall f k c w s).filter = s.filter ∧
    (acceptRecall f k c w s).presence = s.presence ∧ (acceptRecall f k c w s).catchUp = s.catchUp ∧ (acceptRecall f k c w s).tx = s.tx ∧
    (acceptRecall f k c w s).inputs = s.inputs ∧ (acceptRecall f k c w s).node = s.node ∧ (acceptRecall f k c w s).store = s.store ∧
    (acceptRecall f k c w s).port = s.port ∧ (acceptRecall f k c w s).pending = s.pending := by
  unfold acceptRecall
  dsimp only
  (repeat' split) <;> simp

/-- What `acceptEntries` leaves as it was. -/
@[simp] theorem acceptEntries_frame (l : List SyncEntry) (s : State) :
    (acceptEntries l s).pins = s.pins ∧ (acceptEntries l s).lanes = s.lanes ∧ (acceptEntries l s).filter = s.filter ∧
    (acceptEntries l s).presence = s.presence ∧ (acceptEntries l s).tx = s.tx ∧ (acceptEntries l s).occupancy = s.occupancy ∧
    (acceptEntries l s).inputs = s.inputs ∧ (acceptEntries l s).node = s.node ∧ (acceptEntries l s).store = s.store ∧ (acceptEntries l s).port = s.port ∧
    (acceptEntries l s).pending = s.pending := by
  unfold acceptEntries
  exact ⟨(strikeAnswers_frame _ _).1.trans (foldl_keep State.pins _ (by intros; simp) _ _), (strikeAnswers_frame _ _).2.1.trans (foldl_keep State.lanes _ (by intros; simp) _ _), (strikeAnswers_frame _ _).2.2.1.trans (foldl_keep State.filter _ (by intros; simp) _ _), (strikeAnswers_frame _ _).2.2.2.1.trans (foldl_keep State.presence _ (by intros; simp) _ _), (strikeAnswers_frame _ _).2.2.2.2.2.1.trans (foldl_keep State.tx _ (by intros; simp) _ _), (strikeAnswers_frame _ _).2.2.2.2.2.2.1.trans (foldl_keep State.occupancy _ (by intros; simp) _ _), (strikeAnswers_frame _ _).2.2.2.2.2.2.2.1.trans (foldl_keep State.inputs _ (by intros; simp) _ _), (strikeAnswers_frame _ _).2.2.2.2.2.2.2.2.2.1.trans (foldl_keep State.node _ (by intros; simp) _ _), (strikeAnswers_frame _ _).2.2.2.2.2.2.2.2.2.2.2.2.1.trans (foldl_keep State.store _ (by intros; simp) _ _), (strikeAnswers_frame _ _).2.2.2.2.2.2.2.2.2.2.2.2.2.1.trans (foldl_keep State.port _ (by intros; simp) _ _), (strikeAnswers_frame _ _).2.2.2.2.2.2.2.2.2.2.2.2.2.2.trans (foldl_keep State.pending _ (by intros; simp) _ _)⟩

/-- What `handleFrame` leaves as it was. -/
@[simp] theorem handleFrame_frame (f : Frame) (s : State) :
    (handleFrame f s).pins = s.pins ∧ (handleFrame f s).lanes = s.lanes ∧ (handleFrame f s).filter = s.filter ∧ (handleFrame f s).tx = s.tx ∧
    (handleFrame f s).inputs = s.inputs ∧ (handleFrame f s).node = s.node ∧ (handleFrame f s).store = s.store ∧ (handleFrame f s).port = s.port ∧
    (handleFrame f s).pending = s.pending := by
  unfold handleFrame
  split <;> simp

/-- What `acceptFrame` leaves as it was. -/
@[simp] theorem acceptFrame_frame (f : Frame) (s : State) :
    (acceptFrame f s).pins = s.pins ∧ (acceptFrame f s).lanes = s.lanes ∧ (acceptFrame f s).filter = s.filter ∧ (acceptFrame f s).tx = s.tx ∧
    (acceptFrame f s).inputs = s.inputs ∧ (acceptFrame f s).node = s.node ∧ (acceptFrame f s).store = s.store ∧ (acceptFrame f s).port = s.port ∧
    (acceptFrame f s).pending = s.pending := by
  simp [acceptFrame]

/-- What `filterFrame` leaves as it was. -/
@[simp] theorem filterFrame_frame (L : Lane) (f : Frame) (s : State) :
    (filterFrame L f s).pins = s.pins ∧ (filterFrame L f s).lanes = s.lanes ∧ (filterFrame L f s).tx = s.tx ∧ (filterFrame L f s).inputs = s.inputs ∧
    (filterFrame L f s).node = s.node ∧ (filterFrame L f s).store = s.store ∧ (filterFrame L f s).port = s.port ∧ (filterFrame L f s).pending = s.pending := by
  unfold filterFrame
  dsimp only
  (repeat' split) <;> simp

/-- What `takeGood` leaves as it was. -/
@[simp] theorem takeGood_frame (L : Lane) (f : Frame) (s : State) :
    (takeGood L f s).pins = s.pins ∧ (takeGood L f s).inputs = s.inputs ∧ (takeGood L f s).store = s.store ∧ (takeGood L f s).port = s.port ∧
    (takeGood L f s).pending = s.pending := by
  unfold takeGood
  dsimp only
  (repeat' split) <;> simp

/-- What `takeBad` leaves as it was. -/
@[simp] theorem takeBad_frame (L : Lane) (c : LaneCounter) (s : State) :
    (takeBad L c s).pins = s.pins ∧ (takeBad L c s).filter = s.filter ∧ (takeBad L c s).presence = s.presence ∧ (takeBad L c s).inputs = s.inputs ∧
    (takeBad L c s).store = s.store ∧ (takeBad L c s).port = s.port ∧ (takeBad L c s).pending = s.pending := by
  simp [takeBad]

/-- What `putInput` leaves as it was. -/
@[simp] theorem putInput_frame (i : Line) (r : InputRecord) (s : State) :
    (putInput i r s).pins = s.pins ∧ (putInput i r s).lanes = s.lanes ∧ (putInput i r s).filter = s.filter ∧ (putInput i r s).presence = s.presence ∧
    (putInput i r s).zoneStore = s.zoneStore ∧ (putInput i r s).catchUp = s.catchUp ∧ (putInput i r s).tx = s.tx ∧
    (putInput i r s).occupancy = s.occupancy ∧ (putInput i r s).heads = s.heads ∧ (putInput i r s).node = s.node ∧ (putInput i r s).counters = s.counters ∧
    (putInput i r s).events = s.events ∧ (putInput i r s).store = s.store ∧ (putInput i r s).port = s.port ∧ (putInput i r s).pending = s.pending := by
  simp [putInput]

/-- What `requestOfKind` leaves as it was. -/
@[simp] theorem requestOfKind_frame (k : InputKind) (s : State) :
    (requestOfKind k s).pins = s.pins ∧ (requestOfKind k s).lanes = s.lanes ∧ (requestOfKind k s).filter = s.filter ∧
    (requestOfKind k s).presence = s.presence ∧ (requestOfKind k s).inputs = s.inputs ∧ (requestOfKind k s).store = s.store ∧
    (requestOfKind k s).port = s.port ∧ (requestOfKind k s).pending = s.pending := by
  unfold requestOfKind
  split <;> simp

/-- What `senseInputs` leaves as it was. -/
@[simp] theorem senseInputs_frame (s : State) :
    (senseInputs s).pins = s.pins ∧ (senseInputs s).lanes = s.lanes ∧ (senseInputs s).filter = s.filter ∧ (senseInputs s).presence = s.presence ∧
    (senseInputs s).zoneStore = s.zoneStore ∧ (senseInputs s).catchUp = s.catchUp ∧ (senseInputs s).tx = s.tx ∧ (senseInputs s).occupancy = s.occupancy ∧
    (senseInputs s).heads = s.heads ∧ (senseInputs s).node = s.node ∧ (senseInputs s).counters = s.counters ∧ (senseInputs s).events = s.events ∧
    (senseInputs s).store = s.store ∧ (senseInputs s).port = s.port ∧ (senseInputs s).pending = s.pending := by
  simp [senseInputs]

/-- What `beginLoading` leaves as it was. -/
@[simp] theorem beginLoading_frame (s : State) :
    (beginLoading s).pins = s.pins ∧ (beginLoading s).lanes = s.lanes ∧ (beginLoading s).filter = s.filter ∧ (beginLoading s).presence = s.presence ∧
    (beginLoading s).zoneStore = s.zoneStore ∧ (beginLoading s).catchUp = s.catchUp ∧ (beginLoading s).tx = s.tx ∧
    (beginLoading s).occupancy = s.occupancy ∧ (beginLoading s).inputs = s.inputs ∧ (beginLoading s).heads = s.heads ∧
    (beginLoading s).counters = s.counters ∧ (beginLoading s).events = s.events ∧ (beginLoading s).store = s.store ∧ (beginLoading s).port = s.port ∧
    (beginLoading s).pending = s.pending := by
  simp [beginLoading]

/-- What `enterLanes` leaves as it was. -/
@[simp] theorem enterLanes_frame (u : PerLane Bool) (s : State) :
    (enterLanes u s).pins = s.pins ∧ (enterLanes u s).filter = s.filter ∧ (enterLanes u s).presence = s.presence ∧
    (enterLanes u s).zoneStore = s.zoneStore ∧ (enterLanes u s).catchUp = s.catchUp ∧ (enterLanes u s).tx = s.tx ∧
    (enterLanes u s).occupancy = s.occupancy ∧ (enterLanes u s).inputs = s.inputs ∧ (enterLanes u s).heads = s.heads ∧ (enterLanes u s).node = s.node ∧
    (enterLanes u s).counters = s.counters ∧ (enterLanes u s).events = s.events ∧ (enterLanes u s).store = s.store ∧ (enterLanes u s).port = s.port ∧
    (enterLanes u s).pending = s.pending := by
  simp [enterLanes]

/-- What `enterCommission` leaves as it was. -/
@[simp] theorem enterCommission_frame (u : PerLane Bool) (s : State) :
    (enterCommission u s).pins = s.pins ∧ (enterCommission u s).filter = s.filter ∧ (enterCommission u s).zoneStore = s.zoneStore ∧
    (enterCommission u s).catchUp = s.catchUp ∧ (enterCommission u s).tx = s.tx ∧ (enterCommission u s).occupancy = s.occupancy ∧
    (enterCommission u s).inputs = s.inputs ∧ (enterCommission u s).counters = s.counters ∧ (enterCommission u s).events = s.events ∧
    (enterCommission u s).store = s.store ∧ (enterCommission u s).port = s.port ∧ (enterCommission u s).pending = s.pending := by
  simp [enterCommission]

/-- What `enterListen` leaves as it was. -/
@[simp] theorem enterListen_frame (u : PerLane Bool) (s : State) :
    (enterListen u s).pins = s.pins ∧ (enterListen u s).filter = s.filter ∧ (enterListen u s).zoneStore = s.zoneStore ∧
    (enterListen u s).catchUp = s.catchUp ∧ (enterListen u s).tx = s.tx ∧ (enterListen u s).counters = s.counters ∧ (enterListen u s).store = s.store ∧
    (enterListen u s).port = s.port ∧ (enterListen u s).pending = s.pending := by
  simp [enterListen]

/-- What `handConfiguration` leaves as it was. -/
@[simp] theorem handConfiguration_frame (c : Configuration) (s : State) :
    (handConfiguration c s).pins = s.pins ∧ (handConfiguration c s).lanes = s.lanes ∧ (handConfiguration c s).filter = s.filter ∧
    (handConfiguration c s).catchUp = s.catchUp ∧ (handConfiguration c s).tx = s.tx ∧ (handConfiguration c s).counters = s.counters ∧
    (handConfiguration c s).store = s.store ∧ (handConfiguration c s).port = s.port ∧ (handConfiguration c s).pending = s.pending := by
  simp [handConfiguration]

/-- What `handInvalid` leaves as it was. -/
@[simp] theorem handInvalid_frame (s : State) :
    (handInvalid s).pins = s.pins ∧ (handInvalid s).lanes = s.lanes ∧ (handInvalid s).filter = s.filter ∧ (handInvalid s).catchUp = s.catchUp ∧
    (handInvalid s).tx = s.tx ∧ (handInvalid s).counters = s.counters ∧ (handInvalid s).store = s.store ∧ (handInvalid s).port = s.port ∧
    (handInvalid s).pending = s.pending := by
  simp [handInvalid]

/-- What `endLoading` leaves as it was. -/
@[simp] theorem endLoading_frame (v : Validation) (s : State) :
    (endLoading v s).pins = s.pins ∧ (endLoading v s).filter = s.filter ∧ (endLoading v s).catchUp = s.catchUp ∧ (endLoading v s).tx = s.tx ∧
    (endLoading v s).counters = s.counters ∧ (endLoading v s).store = s.store ∧ (endLoading v s).port = s.port ∧ (endLoading v s).pending = s.pending := by
  unfold endLoading
  dsimp only
  (repeat' split) <;> simp

end Sys2Proof.Machine
end

