-- ==== Sys2Proof/Laws/Tables.lean ====
section
/-! SUPPORT. The entries of tables and the members of sets, and reading an array of the Config Store after a write. -/

namespace Sys2Proof.Machine

open Sys2Proof

/-! ## Tables -/

@[simp] theorem tabulate_get {α : Type} {n : Nat} (f : Fin n → α) (i : Fin n) : (tabulate n f)[i] = f i := by
  simp [tabulate]

@[simp] theorem tabulate_getElem {α : Type} {n : Nat} (f : Fin n → α) (i : Nat) (h : i < n) : (tabulate n f)[i] = f ⟨i, h⟩ := by
  simp [tabulate]

@[simp] theorem mapTable_get {α β : Type} {n : Nat} (f : α → β) (v : Vector α n) (i : Fin n) : (mapTable f v)[i] = f v[i] := by
  simp [mapTable]

@[simp] theorem mapTable_getElem {α β : Type} {n : Nat} (f : α → β) (v : Vector α n) (i : Nat) (h : i < n) : (mapTable f v)[i] = f v[i] := by
  simp [mapTable]

theorem update_getElem {α : Type} {n : Nat} (v : Vector α n) (i : Fin n) (x : α) (j : Nat) (h : j < n) :
    (update v i x)[j] = if j = i.val then x else v[j] := by
  simp only [update, Vector.getElem_set, eq_comm]

theorem update_get {α : Type} {n : Nat} (v : Vector α n) (i j : Fin n) (x : α) : (update v i x)[j] = if j = i then x else v[j] := by
  simp only [Fin.getElem_fin, update_getElem, Fin.ext_iff]

@[simp] theorem update_get_same {α : Type} {n : Nat} (v : Vector α n) (i : Fin n) (x : α) : (update v i x)[i.val] = x := by
  simp only [update_getElem, if_true]

theorem update_get_other {α : Type} {n : Nat} (v : Vector α n) (i j : Fin n) (x : α) (h : j ≠ i) : (update v i x)[j] = v[j] := by
  rw [update_get, if_neg h]

/-- Two tables with the same entries are the same table. -/
theorem table_ext {α : Type} {n : Nat} (v w : Vector α n) (h : ∀ i : Fin n, v[i] = w[i]) : v = w := by
  apply Vector.ext
  intro i hi
  exact h ⟨i, hi⟩

theorem replicate_get {α : Type} {n : Nat} (x : α) (i : Fin n) : (Vector.replicate n x)[i] = x := by
  simp

/-! ## Sets -/

theorem oneOf_inSet (n m : Fin 32) : inSet (oneOf n) m = decide (m = n) := by
  revert n m
  decide +kernel

theorem inSet_or (x y : BitVec 32) (n : Fin 32) : inSet (x ||| y) n = (inSet x n || inSet y n) := by
  simp [inSet]

/-- Two sets with the same members are the same set. -/
theorem set_ext (x y : BitVec 32) (h : ∀ n, inSet x n = inSet y n) : x = y := by
  apply BitVec.eq_of_getLsbD_eq
  intro i hi
  exact h ⟨i, hi⟩

theorem mem_members (set : BitVec 32) (n : Fin 32) : n ∈ members set ↔ inSet set n = true := by
  simp [members]

theorem setOf_fold (p : Fin 32 → Bool) (l : List (Fin 32)) (acc : BitVec 32) (n : Fin 32) :
    inSet (l.foldl (fun acc m => if p m then acc ||| oneOf m else acc) acc) n = (inSet acc n || (decide (n ∈ l) && p n)) := by
  induction l generalizing acc with
  | nil => simp
  | cons a l ih =>
    rw [List.foldl_cons, ih]
    by_cases hp : p a
    · by_cases hn : n = a
      · subst hn; simp [hp, inSet_or, oneOf_inSet]
      · simp [hp, inSet_or, oneOf_inSet, hn]
    · by_cases hn : n = a
      · subst hn; simp [hp]
      · simp [hp, hn]

@[simp] theorem setOf_inSet (p : Fin 32 → Bool) (n : Fin 32) : inSet (setOf p) n = p n := by
  rw [setOf, setOf_fold]
  simp [inSet]

/-! ## Lanes -/

@[simp] theorem PerLane.put_get {α : Type} (p : PerLane α) (L : Lane) (x : α) : (p.put L x).get L = x := by
  cases L <;> rfl

@[simp] theorem PerLane.put_get_other {α : Type} (p : PerLane α) (L : Lane) (x : α) : (p.put L x).get L.other = p.get L.other := by
  cases L <;> rfl

theorem PerLane.get_put {α : Type} (p : PerLane α) (L M : Lane) (x : α) : (p.put L x).get M = if M = L then x else p.get M := by
  cases L <;> cases M <;> rfl

/-! ## The array of the Config Store -/

@[simp] theorem read_nil (a : Nat) : Memory.read [] a = Config.unwrittenByte := rfl

/-- Below the addresses listed, every byte reads as unwritten. -/
theorem read_below (m : Memory) (lo a : Nat) (h : Memory.wfFrom lo m = true) (ha : a < lo) : Memory.read m a = Config.unwrittenByte := by
  induction m generalizing lo with
  | nil => rfl
  | cons c m ih =>
    obtain ⟨k, b⟩ := c
    simp only [Memory.wfFrom, Bool.and_eq_true, decide_eq_true_eq] at h
    have hk : k ≠ a := by omega
    simp only [Memory.read, hk, if_false]
    exact ih (k + 1) h.2 (by omega)

theorem wfFrom_mono (m : Memory) (lo lo' : Nat) (h : Memory.wfFrom lo m = true) (hl : lo' ≤ lo) : Memory.wfFrom lo' m = true := by
  cases m with
  | nil => rfl
  | cons c m =>
    obtain ⟨k, b⟩ := c
    simp only [Memory.wfFrom, Bool.and_eq_true, decide_eq_true_eq] at h ⊢
    exact ⟨⟨⟨by omega, h.1.1.2⟩, h.1.2⟩, h.2⟩

/-- A byte write keeps the canonical form. -/
theorem put_wfFrom (m : Memory) (lo a : Nat) (b : Byte) (h : Memory.wfFrom lo m = true) (hl : lo ≤ a) (ha : a < Config.storeBytes) :
    Memory.wfFrom lo (Memory.put m a b) = true := by
  induction m generalizing lo with
  | nil =>
    by_cases hb : b = Config.unwrittenByte
    · simp [Memory.put, hb, Memory.wfFrom]
    · simp [Memory.put, hb, Memory.wfFrom, hl, ha]
  | cons c m ih =>
    obtain ⟨k, v⟩ := c
    have h' := h
    simp only [Memory.wfFrom, Bool.and_eq_true, decide_eq_true_eq] at h'
    obtain ⟨⟨⟨h1, h2⟩, h3⟩, h4⟩ := h'
    unfold Memory.put
    by_cases hak : a < k
    · by_cases hb : b = Config.unwrittenByte
      · simp only [hak, hb, if_true]
        exact h
      · simp only [hak, hb, if_true, if_false, Memory.wfFrom, Bool.and_eq_true, decide_eq_true_eq]
        exact ⟨⟨⟨hl, ha⟩, by simpa using hb⟩, ⟨⟨by omega, h2⟩, h3⟩, h4⟩
    · by_cases he : a = k
      · by_cases hb : b = Config.unwrittenByte
        · simp only [he, hb, if_true]
          simp only [lt_irrefl, if_false]
          exact wfFrom_mono m (k + 1) lo h4 (by omega)
        · subst he
          simp only [lt_irrefl, hb, if_true, if_false, Memory.wfFrom, Bool.and_eq_true, decide_eq_true_eq]
          exact ⟨⟨⟨h1, h2⟩, by simpa using hb⟩, h4⟩
      · simp only [hak, he, if_false, Memory.wfFrom, Bool.and_eq_true, decide_eq_true_eq]
        exact ⟨⟨⟨h1, h2⟩, h3⟩, ih (k + 1) h4 (by omega)⟩

/-- A byte write to the array keeps the canonical form. -/
theorem write_wf (m : Memory) (a : Fin 2048) (b : Byte) (h : Memory.wf m = true) : Memory.wf (Memory.write m a b) = true :=
  put_wfFrom m 0 a.val b h (Nat.zero_le _) a.isLt

/-- The byte written reads back, and every other byte reads as before. -/
theorem read_put (m : Memory) (lo a : Nat) (b : Byte) (x : Nat) (h : Memory.wfFrom lo m = true) :
    Memory.read (Memory.put m a b) x = if x = a then b else Memory.read m x := by
  induction m generalizing lo with
  | nil =>
    by_cases hb : b = Config.unwrittenByte
    · by_cases hx : x = a <;> simp [Memory.put, hb, hx]
    · by_cases hx : x = a
      · simp [Memory.put, hb, Memory.read, hx]
      · simp [Memory.put, hb, Memory.read, hx, Ne.symm hx]
  | cons c m ih =>
    obtain ⟨k, v⟩ := c
    have h' := h
    simp only [Memory.wfFrom, Bool.and_eq_true, decide_eq_true_eq] at h'
    obtain ⟨⟨⟨h1, h2⟩, h3⟩, h4⟩ := h'
    unfold Memory.put
    by_cases hak : a < k
    · by_cases hb : b = Config.unwrittenByte
      · simp only [hak, hb, if_true]
        by_cases hx : x = a
        · subst hx
          have hk : k ≠ x := by omega
          simp only [Memory.read, hk, if_false, if_true]
          exact read_below m (k + 1) x h4 (by omega)
        · simp [hx]
      · simp only [hak, hb, if_true, if_false]
        by_cases hx : x = a
        · simp [Memory.read, hx]
        · simp [Memory.read, hx, Ne.symm hx]
    · by_cases he : a = k
      · subst he
        by_cases hb : b = Config.unwrittenByte
        · simp only [lt_irrefl, hb, if_true, if_false]
          by_cases hx : x = a
          · subst hx
            simp only [if_true]
            exact read_below m (x + 1) x h4 (by omega)
          · simp [Memory.read, hx, Ne.symm hx]
        · simp only [lt_irrefl, hb, if_true, if_false]
          by_cases hx : x = a
          · simp [Memory.read, hx]
          · simp [Memory.read, hx, Ne.symm hx]
      · simp only [hak, he, if_false, Memory.read]
        rw [ih (k + 1) h4]
        by_cases hx : x = a
        · subst hx
          have hk : k ≠ x := fun e => he e.symm
          simp [hk]
        · simp [hx]

/-- The byte written reads back, and every other byte reads as before. -/
theorem read_write (m : Memory) (a : Fin 2048) (b : Byte) (x : Nat) (h : Memory.wf m = true) :
    Memory.read (Memory.write m a b) x = if x = a.val then b else Memory.read m x := read_put m 0 a.val b x h

/-- A write cut off keeps the canonical form. -/
theorem cutOffWrite_wf (store : ConfigStore) (h : Memory.wf store.array = true) : Memory.wf (cutOffWrite store) = true := by
  unfold cutOffWrite
  split
  · exact h
  · exact write_wf _ _ _ h

end Sys2Proof.Machine
end

