-- ==== Sys2Proof/Laws/Events.lean ====
section
/-! SUPPORT. What raising an event and counting do to the Event Unit and the Counter Bank. -/

namespace Sys2Proof.Machine

open Sys2Proof

/-! ## Raising -/

@[simp] theorem raise_events (e : Event) (s : State) :
    (raise e s).events = { s.events with records := s.events.records.add e } := rfl

@[simp] theorem raise_mask (e : Event) (s : State) : (raise e s).events.mask = s.events.mask := rfl

/-! ## Counting -/

/-- What a count does to the live counters: the counted one rises, stopping at its greatest value, and no other moves. -/
theorem countAt_live (i j : Fin 28) (s : State) :
    (countAt i s).counters.live[j] = if j = i then oneMore s.counters.live[j] else s.counters.live[j] := by
  unfold countAt oneMore
  dsimp only
  by_cases hj : j = i
  · subst hj
    split
    · simp
    · split <;> simp
  · split
    · simp
    · split <;> simp [hj, update_getElem, Fin.val_inj]

/-- No count touches the capture bank. -/
@[simp] theorem countAt_capture (i : Fin 28) (s : State) : (countAt i s).counters.capture = s.counters.capture := by
  unfold countAt
  dsimp only
  (repeat' split) <;> simp

/-- A count that is no first saturation leaves the latch and the events. -/
theorem countAt_quiet (i : Fin 28) (s : State) (h : s.counters.live[i] ≠ 0xFFFFFFFE#32 ∨ s.counters.latch = true) :
    (countAt i s).counters.latch = s.counters.latch ∧ (countAt i s).events = s.events := by
  unfold countAt
  dsimp only
  split
  · exact ⟨rfl, rfl⟩
  · next hm =>
    split
    · next hs =>
      exfalso
      rcases h with h | h
      · apply h
        have h1 := hs.1
        generalize s.counters.live[i] = v at h1
        simp only [maxWord] at h1
        bv_omega
      · rw [hs.2] at h; exact absurd h (by decide)
    · exact ⟨rfl, rfl⟩

/-- The first saturation since the latch was cleared sets the latch and raises COUNTER_SATURATED. -/
theorem countAt_saturates (i : Fin 28) (s : State) (h : s.counters.live[i] = 0xFFFFFFFE#32) (hl : s.counters.latch = false) :
    (countAt i s).counters.latch = true ∧
      (countAt i s).events = { s.events with records := { s.events.records with counterSaturated := some i } } := by
  unfold countAt
  dsimp only
  rw [if_neg (by rw [h]; decide), if_pos (by rw [h]; exact ⟨by decide, hl⟩)]
  exact ⟨rfl, rfl⟩

/-- A count leaves every event record but COUNTER_SATURATED's. -/
theorem countAt_events (i : Fin 28) (s : State) :
    (countAt i s).events =
      { s.events with records := { s.events.records with counterSaturated := (countAt i s).events.records.counterSaturated } } := by
  unfold countAt
  dsimp only
  (repeat' split) <;> simp [EventRecords.add]

/-- A count changes the Counter Bank and the Event Unit alone. -/
theorem countAt_changes (i : Fin 28) (s : State) :
    countAt i s = { s with counters := (countAt i s).counters, events := (countAt i s).events } := by
  apply State.eq_of_fields <;> simp

end Sys2Proof.Machine
end

