-- ==== Sys2Proof/Laws/Queue.lean ====
section
/-! SUPPORT. What offering a record, changing the first record of a kind, and settling do to the Transmit Queue. -/

namespace Sys2Proof.Machine

open Sys2Proof

/-! ## Changing one record -/

/-- The first record of which `p` holds is changed in its place. -/
theorem changeFirst_at (p : TxRecord → Bool) (f : TxRecord → TxRecord) (older younger : List TxRecord) (r : TxRecord)
    (ho : ∀ q ∈ older, p q = false) (hr : p r = true) :
    changeFirst p f (older ++ r :: younger) = older ++ f r :: younger := by
  induction older with
  | nil => simp [changeFirst, hr]
  | cons a older ih =>
    have ha : p a = false := ho a List.mem_cons_self
    rw [List.cons_append, changeFirst, if_neg (by simp [ha]), ih (fun q hq => ho q (List.mem_cons_of_mem a hq))]
    rfl

/-- With no such record nothing changes. -/
theorem changeFirst_none (p : TxRecord → Bool) (f : TxRecord → TxRecord) (l : List TxRecord) (h : ∀ q ∈ l, p q = false) :
    changeFirst p f l = l := by
  induction l with
  | nil => rfl
  | cons a l ih =>
    rw [changeFirst, if_neg (by simp [h a List.mem_cons_self]), ih (fun q hq => h q (List.mem_cons_of_mem a hq))]

@[simp] theorem changeFirst_length (p : TxRecord → Bool) (f : TxRecord → TxRecord) (l : List TxRecord) :
    (changeFirst p f l).length = l.length := by
  induction l with
  | nil => rfl
  | cons a l ih =>
    rw [changeFirst]
    split <;> simp [ih]

/-- A list splits at the first record of which `p` holds. -/
theorem split_first (p : TxRecord → Bool) (l : List TxRecord) (r : TxRecord) (h : l.find? p = some r) :
    ∃ older younger, l = older ++ r :: younger ∧ (∀ q ∈ older, p q = false) ∧ p r = true := by
  obtain ⟨hp, older, younger, he, ho⟩ := List.find?_eq_some_iff_append.mp h
  exact ⟨older, younger, he, fun q hq => by simpa using ho q hq, hp⟩

/-- The lane's copy in flight is the first record whose copy is IN_FLIGHT. -/
theorem inFlightOn_first (L : Lane) (older younger : List TxRecord) (r : TxRecord)
    (ho : ∀ q ∈ older, q.copies.get L ≠ .inFlight) (hr : r.copies.get L = .inFlight) :
    inFlightOn L (older ++ r :: younger) = some r := by
  unfold inFlightOn
  rw [List.find?_append, List.find?_eq_none.mpr (fun q hq => by simpa using ho q hq)]
  simp [hr]

/-- No copy of the lane is in flight. -/
theorem inFlightOn_none (L : Lane) (l : List TxRecord) : inFlightOn L l = none ↔ ∀ q ∈ l, q.copies.get L ≠ .inFlight := by
  simp [inFlightOn]

/-- The record of the copy in flight is changed in its place. -/
theorem changeInFlight_records (L : Lane) (f : TxRecord → TxRecord) (s : State) (older younger : List TxRecord) (r : TxRecord)
    (h : s.tx.records = older ++ r :: younger) (ho : ∀ q ∈ older, q.copies.get L ≠ .inFlight) (hr : r.copies.get L = .inFlight) :
    changeInFlight L f s = s.setTx { s.tx with records := older ++ f r :: younger } := by
  unfold changeInFlight
  rw [h, changeFirst_at _ _ _ _ _ (fun q hq => by simpa using ho q hq) (by simp [hr])]

/-! ## Copies -/

@[simp] theorem TxRecord.setCopy_get (r : TxRecord) (L : Lane) (c : CopyState) : (r.setCopy L c).copies.get L = c := by
  simp [TxRecord.setCopy]

@[simp] theorem TxRecord.setCopy_get_other (r : TxRecord) (L : Lane) (c : CopyState) :
    (r.setCopy L c).copies.get L.other = r.copies.get L.other := by
  simp [TxRecord.setCopy]

@[simp] theorem TxRecord.setCopy_payload (r : TxRecord) (L : Lane) (c : CopyState) : (r.setCopy L c).payload = r.payload := rfl

@[simp] theorem TxRecord.setCopy_sequence (r : TxRecord) (L : Lane) (c : CopyState) : (r.setCopy L c).sequence = r.sequence := rfl

@[simp] theorem TxRecord.setCopy_attempts (r : TxRecord) (L : Lane) (c : CopyState) : (r.setCopy L c).attempts = r.attempts := rfl

/-- A record lives by either lane. -/
theorem live_iff (r : TxRecord) (L : Lane) : r.live = ((r.copies.get L).live || (r.copies.get L.other).live) := by
  cases L
  · rfl
  · simp [TxRecord.live, PerLane.get, Lane.other, Bool.or_comm]

/-! ## Displacing -/

/-- The newest ROUTINE record without a copy in flight leaves its place. -/
theorem displaceNewest_at (older younger : List TxRecord) (gone : TxRecord) (hu : gone.payload.urgent = false) (hf : gone.flying = false)
    (hy : ∀ r ∈ younger, r.payload.urgent = true ∨ r.flying = true) :
    displaceNewest (older ++ gone :: younger) = some (gone, older ++ younger) := by
  have hnone : displaceNewest younger = none := by
    clear hu hf
    induction younger with
    | nil => rfl
    | cons a l ih =>
      rw [displaceNewest, ih (fun r hr => hy r (List.mem_cons_of_mem a hr))]
      have ha := hy a List.mem_cons_self
      rcases ha with ha | ha <;> simp [ha]
  induction older with
  | nil => simp [displaceNewest, hnone, hu, hf]
  | cons a older ih => rw [List.cons_append, displaceNewest, ih]; rfl

/-- With only URGENT records and records with a copy in flight none leaves. -/
theorem displaceNewest_none (l : List TxRecord) : displaceNewest l = none ↔ ∀ r ∈ l, r.payload.urgent = true ∨ r.flying = true := by
  induction l with
  | nil => simp [displaceNewest]
  | cons a l ih =>
    rw [displaceNewest]
    cases h : displaceNewest l with
    | some p =>
      simp only [reduceCtorEq, false_iff]
      intro hall
      rw [ih.mpr (fun r hr => hall r (List.mem_cons_of_mem a hr))] at h
      exact absurd h (by simp)
    | none =>
      have hl := ih.mp h
      cases hu : a.payload.urgent <;> cases hf : a.flying <;> simp [hu, hf] <;> exact hl

/-- A record that leaves: where it stood, and that those after it are URGENT or have a copy in flight. -/
theorem displaceNewest_some (l left : List TxRecord) (gone : TxRecord) (h : displaceNewest l = some (gone, left)) :
    ∃ older younger, l = older ++ gone :: younger ∧ left = older ++ younger ∧ gone.payload.urgent = false ∧ gone.flying = false := by
  induction l generalizing left with
  | nil => simp [displaceNewest] at h
  | cons a l ih =>
    rw [displaceNewest] at h
    cases hd : displaceNewest l with
    | some p =>
      obtain ⟨g, left'⟩ := p
      simp only [hd, Option.some.injEq, Prod.mk.injEq] at h
      obtain ⟨hg, hl⟩ := h
      subst hg
      obtain ⟨older, younger, h1, h2, h3⟩ := ih left' hd
      exact ⟨a :: older, younger, by rw [h1]; rfl, by rw [← hl, h2]; rfl, h3⟩
    | none =>
      simp only [hd, Option.ite_none_right_eq_some, Option.some.injEq, Prod.mk.injEq, Bool.and_eq_true, Bool.not_eq_true'] at h
      obtain ⟨⟨hu, hf⟩, hg, hl⟩ := h
      subst hg hl
      exact ⟨[], _, rfl, rfl, hu, hf⟩

/-! ## Offering -/

/-- No lane takes a copy. -/
theorem offerRecord_notSent (p : Payload) (stamp : Word32) (s : State) (h : ¬ anyPending p s) :
    offerRecord p stamp s = { state := if p.urgent then countNode .isolatedPublish s else s, outcome := .notSent, lostAsk := false } := by
  unfold anyPending at h
  unfold offerRecord
  rw [if_pos (by tauto)]
  rfl

/-- With room the record joins at the newest end. -/
theorem offerRecord_room (p : Payload) (stamp : Word32) (s : State) (h : anyPending p s) (hr : s.tx.records.length < 16) :
    offerRecord p stamp s =
      { state := s.setTx { records := s.tx.records ++ [newRecord p stamp s], nextSequence := s.tx.nextSequence + 1 },
        outcome := .entered, lostAsk := false } := by
  unfold anyPending at h
  unfold offerRecord
  rw [if_neg (by tauto), if_pos (by exact hr)]
  rfl

/-- A full queue gives a place to an URGENT record. -/
theorem offerRecord_displaces (p : Payload) (stamp : Word32) (s : State) (h : anyPending p s) (hr : 16 ≤ s.tx.records.length)
    (hu : p.urgent = true) (gone : TxRecord) (left : List TxRecord) (hd : displaceNewest s.tx.records = some (gone, left)) :
    offerRecord p stamp s =
      { state := enterRecord p stamp (newCopies p.isPresence s) (dropRecord (s.setTx { s.tx with records := left })),
        outcome := .entered, lostAsk := gone.unsentAsk } := by
  unfold anyPending at h
  unfold offerRecord
  rw [if_neg (by tauto), if_neg (by simp only [queueRoom]; omega), if_pos hu, hd]

/-- A full queue otherwise discards the record. -/
theorem offerRecord_drops (p : Payload) (stamp : Word32) (s : State) (h : anyPending p s) (hr : 16 ≤ s.tx.records.length)
    (hd : p.urgent = false ∨ displaceNewest s.tx.records = none) :
    offerRecord p stamp s = { state := dropRecord s, outcome := .dropped, lostAsk := false } := by
  unfold anyPending at h
  unfold offerRecord
  rw [if_neg (by tauto), if_neg (by simp only [queueRoom]; omega)]
  rcases hd with hd | hd
  · rw [if_neg (by simp [hd])]
  · split
    · rw [hd]
    · rfl

/-- What an offer does to the queue depends on the lanes, the fault lines, the queue and the start tag alone. -/
theorem offerRecord_congr (p : Payload) (stamp : Word32) (s t : State) (hp : t.pins = s.pins) (hl : t.lanes = s.lanes)
    (ht : t.tx = s.tx) (hn : t.node.startTag = s.node.startTag) :
    (offerRecord p stamp t).outcome = (offerRecord p stamp s).outcome ∧ (offerRecord p stamp t).lostAsk = (offerRecord p stamp s).lostAsk ∧
      (offerRecord p stamp t).state.tx = (offerRecord p stamp s).state.tx := by
  have hc : newCopies p.isPresence t = newCopies p.isPresence s := by simp [newCopies, hl, hp]
  unfold offerRecord
  rw [hc, ht]
  dsimp only
  split
  · exact ⟨rfl, rfl, by split <;> simp [ht]⟩
  · split
    · exact ⟨rfl, rfl, by simp [enterRecord, ht, hn]⟩
    · split
      · split
        · exact ⟨rfl, rfl, by simp [enterRecord, hn]⟩
        · exact ⟨rfl, rfl, by simp [ht]⟩
      · exact ⟨rfl, rfl, by simp [ht]⟩

/-- An offer changes the Transmit Queue, the Counter Bank and the Event Unit alone. -/
theorem offerRecord_changes (p : Payload) (stamp : Word32) (s : State) :
    (offerRecord p stamp s).state =
      { s with tx := (offerRecord p stamp s).state.tx, counters := (offerRecord p stamp s).state.counters,
               events := (offerRecord p stamp s).state.events } := by
  apply State.eq_of_fields <;> simp

end Sys2Proof.Machine
end

