-- ==== Sys2Proof/Laws/Zones.lean ====
section
/-! SUPPORT. What recomputing heads, raising the clock, merging and waking do, entry by entry. -/

namespace Sys2Proof.Machine

open Sys2Proof

/-! ## Heads -/

/-- Outside the phases in which heads follow, a recomputation does nothing. -/
theorem recomputeWhere_off (p : Zone → Bool) (code : FadeCode) (s : State) (h : s.node.phase.headsFollow = false) :
    recomputeWhere p code s = s := by
  simp [recomputeWhere, h]

/-- A recomputation touches nothing of the Head Unit but the channels. -/
theorem recomputeWhere_heads (p : Zone → Bool) (code : FadeCode) (s : State) :
    (recomputeWhere p code s).heads = { s.heads with channels := (recomputeWhere p code s).heads.channels } := by
  unfold recomputeWhere
  split <;> simp

@[simp] theorem recomputeWhere_config (p : Zone → Bool) (code : FadeCode) (s : State) :
    (recomputeWhere p code s).heads.config = s.heads.config := by
  rw [recomputeWhere_heads]

@[simp] theorem recomputeHeads_config (z : Zone) (code : FadeCode) (s : State) :
    (recomputeHeads z code s).heads.config = s.heads.config := recomputeWhere_config _ _ _

/-- A recomputation, channel by channel. -/
theorem recomputeWhere_channel (p : Zone → Bool) (code : FadeCode) (s : State) (h : s.node.phase.headsFollow = true) (ch : Channel) :
    (recomputeWhere p code s).heads.channels[ch] =
      match s.heads.config[headOf ch].zone with
      | some z =>
        if p z then recomputeChannel s.heads.config[headOf ch] (effective s.zoneStore z) (factorOf s.occupancy z) code ch s.heads.channels[ch]
        else s.heads.channels[ch]
      | none => s.heads.channels[ch] := by
  simp [recomputeWhere, h] <;> rfl

/-- A channel lit by a head of the zone starts its fade to the zone's target. -/
theorem recomputeHeads_lit (z : Zone) (code : FadeCode) (s : State) (h : s.node.phase.headsFollow = true) (ch : Channel)
    (hl : lights s.heads z ch) :
    (recomputeHeads z code s).heads.channels[ch] =
      startFade (targetOf (componentOf (effective s.zoneStore z).colour ch) (effective s.zoneStore z).level (factorOf s.occupancy z)) code
        s.heads.channels[ch] := by
  rw [recomputeHeads, recomputeWhere_channel _ _ _ h, hl.1]
  simp only [beq_self_eq_true, if_true, recomputeChannel, hl.2]

/-- A masked channel of a head of the zone is set to 0. -/
theorem recomputeHeads_masked (z : Zone) (code : FadeCode) (s : State) (h : s.node.phase.headsFollow = true) (ch : Channel)
    (hz : s.heads.config[headOf ch].zone = some z) (hm : channelEnabled s.heads.config[headOf ch] ch = false) :
    (recomputeHeads z code s).heads.channels[ch] = maskedChannel := by
  rw [recomputeHeads, recomputeWhere_channel _ _ _ h, hz]
  simp only [beq_self_eq_true, if_true, recomputeChannel, hm]
  rfl

/-- A recomputation of a zone's heads touches nothing of the Head Unit but the channels. -/
theorem recomputeHeads_heads (z : Zone) (code : FadeCode) (s : State) :
    (recomputeHeads z code s).heads = { s.heads with channels := (recomputeHeads z code s).heads.channels } :=
  recomputeWhere_heads _ _ _

/-- A channel of a head of another zone, or of none, stays. -/
theorem recomputeHeads_other (z : Zone) (code : FadeCode) (s : State) (ch : Channel) (hz : s.heads.config[headOf ch].zone ≠ some z) :
    (recomputeHeads z code s).heads.channels[ch] = s.heads.channels[ch] := by
  by_cases h : s.node.phase.headsFollow = true
  · rw [recomputeHeads, recomputeWhere_channel _ _ _ h]
    split
    · next z' hz' =>
      have hne : (z' == z) = false := by
        simp only [beq_eq_false_iff_ne]
        intro he
        exact hz (he ▸ hz')
      simp [hne]
    · rfl
  · rw [recomputeHeads, recomputeWhere_off _ _ _ (by simpa using h)]

/-! ## The clock and the merge rule -/

/-- The clock rises to the stamp, and nothing else of the Zone Store moves. -/
theorem raiseClock_zoneStore (x : Word32) (s : State) :
    (raiseClock x s).zoneStore = { s.zoneStore with clock := (raiseClock x s).zoneStore.clock } ∧
    (raiseClock x s).zoneStore.clock.toNat = max s.zoneStore.clock.toNat x.toNat := by
  unfold raiseClock
  split
  · exact ⟨rfl, by simp; omega⟩
  · exact ⟨rfl, by omega⟩

@[simp] theorem raiseClock_table (x : Word32) (s : State) : (raiseClock x s).zoneStore.table = s.zoneStore.table := by
  rw [(raiseClock_zoneStore x s).1]

@[simp] theorem raiseClock_library (x : Word32) (s : State) : (raiseClock x s).zoneStore.library = s.zoneStore.library := by
  rw [(raiseClock_zoneStore x s).1]

@[simp] theorem raiseClock_checksum (x : Word32) (s : State) : (raiseClock x s).zoneStore.checksum = s.zoneStore.checksum := by
  rw [(raiseClock_zoneStore x s).1]

/-- A replaced entry: the table, ZONE_CHANGED and nothing else of the two units. -/
theorem replaceEntry_zoneStore (z : Zone) (x : Setting) (s : State) :
    (replaceEntry z x s).zoneStore = { s.zoneStore with table := update s.zoneStore.table z (some x) } := by
  simp [replaceEntry]

theorem replaceEntry_events (z : Zone) (x : Setting) (s : State) :
    (replaceEntry z x s).events =
      { s.events with records := { s.events.records with zoneChanged := andOne s.events.records.zoneChanged z } } := by
  simp [replaceEntry, EventRecords.add, pendSet, andOne]

/-- The pair of `x` takes the place of what the entry holds. -/
def replaces (held : Option Setting) (x : Setting) : Bool :=
  match held with
  | none => true
  | some e => higher x e

/-- The entry a merge leaves. -/
def mergedEntry (held : Option Setting) (x : Setting) : Option Setting := if replaces held x then some x else held

/-- A merge that replaces the entry. -/
theorem merge_replaces (z : Zone) (x : Setting) (s : State) (h : replaces s.zoneStore.table[z] x = true) :
    merge z x s = replaceEntry z x (raiseClock x.stamp s) := by
  unfold merge replaces at *
  simp only [raiseClock_table]
  split
  · rfl
  · next heq => rw [heq] at h; simp only at h; rw [if_pos h]

/-- A merge of an equal pair. -/
theorem merge_equal (z : Zone) (x e : Setting) (s : State) (h : s.zoneStore.table[z] = some e) (hh : higher x e = false) (hp : samePair x e = true) :
    merge z x s = raiseClock x.stamp s := by
  unfold merge
  simp only [raiseClock_table, h, hh, hp]
  rfl

/-- A merge of a lower pair. -/
theorem merge_lower (z : Zone) (x e : Setting) (s : State) (h : s.zoneStore.table[z] = some e) (hh : higher x e = false) (hp : samePair x e = false) :
    merge z x s = countNode .setSuperseded (raiseClock x.stamp s) := by
  unfold merge
  simp only [raiseClock_table, h, hh, hp]
  rfl

/-- What a merge does to the Zone Store: the clock rises to the stamp, the zone's entry is the higher of the two, and nothing else moves. -/
theorem merge_zoneStore (z : Zone) (x : Setting) (s : State) :
    (merge z x s).zoneStore =
      { s.zoneStore with
        clock := (raiseClock x.stamp s).zoneStore.clock,
        table := update s.zoneStore.table z (mergedEntry s.zoneStore.table[z] x) } := by
  by_cases h : replaces s.zoneStore.table[z] x = true
  · rw [merge_replaces z x s h, replaceEntry_zoneStore, raiseClock_table, mergedEntry, if_pos h, (raiseClock_zoneStore x.stamp s).1]
  · have hkeep : update s.zoneStore.table z (mergedEntry s.zoneStore.table[z] x) = s.zoneStore.table := by
      apply table_ext
      intro i
      rw [update_get, mergedEntry, if_neg h]
      split
      · next hi => rw [hi]
      · rfl
    rw [hkeep, ← (raiseClock_zoneStore x.stamp s).1]
    unfold merge
    simp only [raiseClock_table]
    unfold replaces at h
    split
    · next heq => rw [heq] at h; simp at h
    · next e heq =>
      rw [heq] at h
      simp only [Bool.not_eq_true] at h
      simp only [h]
      split
      · next hf => exact absurd hf (by simp)
      · split <;> simp

/-- A merge, entry by entry. -/
theorem merge_table (z : Zone) (x : Setting) (s : State) (y : Zone) :
    (merge z x s).zoneStore.table[y] = if y = z then mergedEntry s.zoneStore.table[z] x else s.zoneStore.table[y] := by
  rw [merge_zoneStore]
  exact update_get _ _ _ _

/-- A merge raises the clock to the stamp. -/
theorem merge_clock (z : Zone) (x : Setting) (s : State) :
    (merge z x s).zoneStore.clock.toNat = max s.zoneStore.clock.toNat x.stamp.toNat := by
  rw [merge_zoneStore]
  exact (raiseClock_zoneStore x.stamp s).2

@[simp] theorem merge_defaults (z : Zone) (x : Setting) (s : State) : (merge z x s).zoneStore.defaults = s.zoneStore.defaults := by
  rw [merge_zoneStore]

@[simp] theorem merge_library (z : Zone) (x : Setting) (s : State) : (merge z x s).zoneStore.library = s.zoneStore.library := by
  rw [merge_zoneStore]

@[simp] theorem merge_checksum (z : Zone) (x : Setting) (s : State) : (merge z x s).zoneStore.checksum = s.zoneStore.checksum := by
  rw [merge_zoneStore]

@[simp] theorem merge_exhausted (z : Zone) (x : Setting) (s : State) : (merge z x s).zoneStore.exhausted = s.zoneStore.exhausted := by
  rw [merge_zoneStore]

@[simp] theorem merge_headConfig (z : Zone) (x : Setting) (s : State) : (merge z x s).heads.config = s.heads.config := by
  unfold merge replaceEntry recomputeHeads
  dsimp only
  (repeat' split) <;> simp

end Sys2Proof.Machine
end

