-- ==== Sys2Proof/Laws/Wakes.lean ====
section
/-! SUPPORT. What changes of occupancy and wakes do, record by record. -/

namespace Sys2Proof.Machine

open Sys2Proof

/-- Writing the entry that is there changes nothing. -/
theorem update_self {α : Type} {n : Nat} (v : Vector α n) (i : Fin n) : update v i v[i] = v := by
  apply table_ext
  intro j
  rw [update_get]
  split
  · next h => rw [h]
  · rfl

/-- A change of occupancy replaces the record. -/
theorem changeOccupancy_occupancy (z : Zone) (r : OccupancyRecord) (s : State) :
    (changeOccupancy z r s).occupancy = { s.occupancy with records := update s.occupancy.records z r } := by
  unfold changeOccupancy
  dsimp only
  (repeat' split) <;> simp [putOccupancy]

/-- A change of occupancy raises OCCUPANCY_CHANGED for the zone. -/
theorem changeOccupancy_events (z : Zone) (r : OccupancyRecord) (s : State) :
    (changeOccupancy z r s).events =
      { s.events with records := { s.events.records with occupancyChanged := andOne s.events.records.occupancyChanged z } } := by
  unfold changeOccupancy
  dsimp only
  (repeat' split) <;> simp [EventRecords.add, pendSet, andOne]

/-- The factor of a zone once its record has been replaced. -/
theorem factorOf_update (o : OccupancyUnit) (z : Zone) (r : OccupancyRecord) :
    factorOf { o with records := update o.records z r } z = stateFactor o.config[z] r.state := by
  simp [factorOf]

/-- Where the factor does not change, a change of occupancy leaves the heads. -/
theorem changeOccupancy_steady (z : Zone) (r : OccupancyRecord) (s : State)
    (h : stateFactor s.occupancy.config[z] r.state = factorOf s.occupancy z) : (changeOccupancy z r s).heads = s.heads := by
  have hf : factorOf (raise (.occupancyChanged (oneOf z)) (putOccupancy z r s)).occupancy z = factorOf s.occupancy z := by
    simp only [raise_frame, putOccupancy, State.setOccupancy_occupancy]
    rw [factorOf_update, h]
  unfold changeOccupancy
  simp only [hf, lt_irrefl, if_false]
  simp

/-- A rise of the factor is handed to the heads with the effective fade code. -/
theorem changeOccupancy_rise (z : Zone) (r : OccupancyRecord) (s : State)
    (h : factorOf s.occupancy z < stateFactor s.occupancy.config[z] r.state) :
    changeOccupancy z r s =
      recomputeHeads z (effective s.zoneStore z).fade (raise (.occupancyChanged (oneOf z)) (putOccupancy z r s)) := by
  have hf : factorOf (raise (.occupancyChanged (oneOf z)) (putOccupancy z r s)).occupancy z = stateFactor s.occupancy.config[z] r.state := by
    simp only [raise_frame, putOccupancy, State.setOccupancy_occupancy]
    rw [factorOf_update]
  unfold changeOccupancy
  simp only [hf]
  rw [if_pos h]
  simp

/-- A fall of the factor is handed to the heads with the vacancy fade code. -/
theorem changeOccupancy_fall (z : Zone) (r : OccupancyRecord) (s : State)
    (h : stateFactor s.occupancy.config[z] r.state < factorOf s.occupancy z) :
    changeOccupancy z r s =
      recomputeHeads z s.occupancy.config[z].fade (raise (.occupancyChanged (oneOf z)) (putOccupancy z r s)) := by
  have hf : factorOf (raise (.occupancyChanged (oneOf z)) (putOccupancy z r s)).occupancy z = stateFactor s.occupancy.config[z] r.state := by
    simp only [raise_frame, putOccupancy, State.setOccupancy_occupancy]
    rw [factorOf_update]
  unfold changeOccupancy
  simp only [hf]
  rw [if_neg (by omega), if_pos h]
  simp [putOccupancy]

/-- A change of occupancy leaves the head configuration. -/
@[simp] theorem changeOccupancy_headConfig (z : Zone) (r : OccupancyRecord) (s : State) :
    (changeOccupancy z r s).heads.config = s.heads.config := by
  unfold changeOccupancy
  dsimp only
  (repeat' split) <;> simp

/-- A wake replaces the record of its zone, and of no other. -/
theorem wake_occupancy (cause : WakeCause) (z : Zone) (s : State) :
    (wake cause z s).occupancy = { s.occupancy with records := update s.occupancy.records z (wokenRecord cause z s) } := by
  unfold wake wokenRecord
  dsimp only
  split
  · next h => rw [if_pos h, update_self]
  · next h => rw [if_neg (by rw [h]; decide)]; rfl
  · next h => rw [if_neg (by rw [h]; decide), changeOccupancy_occupancy]; rfl
  · next h => rw [if_neg (by rw [h]; decide), changeOccupancy_occupancy]; rfl

@[simp] theorem wake_config (cause : WakeCause) (z : Zone) (s : State) : (wake cause z s).occupancy.config = s.occupancy.config := by
  rw [wake_occupancy]

@[simp] theorem wake_headConfig (cause : WakeCause) (z : Zone) (s : State) : (wake cause z s).heads.config = s.heads.config := by
  unfold wake
  dsimp only
  split <;> simp

/-- A wake, record by record. -/
theorem wake_record (cause : WakeCause) (z : Zone) (s : State) (y : Zone) :
    (wake cause z s).occupancy.records[y] = if y = z then wokenRecord cause z s else s.occupancy.records[y] := by
  rw [wake_occupancy]
  exact update_get _ _ _ _

@[simp] theorem wakeAll_config (cause : WakeCause) (zones : List Zone) (s : State) :
    (wakeAll cause zones s).occupancy.config = s.occupancy.config :=
  foldl_keep (fun s : State => s.occupancy.config) _ (fun s z => wake_config cause z s) zones s

/-- A grace time is never 0 (R118). -/
theorem graceTime_ne_zero (code : Fin 16) : graceTime code ≠ 0 := by
  revert code
  decide

/-- A record as a wake leaves it keeps the expiry it has overtaken, and no other is due. -/
@[simp] theorem OccupancyRecord.graceDue_woken (code : Fin 16) (cause : WakeCause) (overtaken : Bool) :
    OccupancyRecord.graceDue { state := .occupied, timer := .running (graceTime code), cause := cause, overtaken := overtaken } =
      overtaken := by
  simp [OccupancyRecord.graceDue, graceTime_ne_zero]

/-- A wake overtakes the expiry of the grace time exactly where one is due (R126). -/
theorem wake_overtaken (cause : WakeCause) (z : Zone) (s : State) (h : s.occupancy.records[z].state ≠ .follow) :
    (wake cause z s).occupancy.records[z].overtaken = s.occupancy.records[z].graceDue := by
  rw [wake_record, if_pos rfl, wokenRecord, if_neg h]

/-- Waking a zone a second time with the same cause leaves its record as the first wake left it. -/
theorem wokenRecord_twice (cause : WakeCause) (z y : Zone) (s : State) :
    wokenRecord cause y (wake cause z s) = wokenRecord cause y s := by
  unfold wokenRecord
  rw [wake_record, wake_config]
  split
  · next h =>
    subst h
    unfold wokenRecord
    by_cases hf : s.occupancy.records[y].state = .follow
    · simp only [hf, if_true]
    · simp only [hf, if_false]
      split
      · next hc => exact absurd hc (by decide)
      · rw [OccupancyRecord.graceDue_woken]
  · rfl

/-- The wakes of several zones, record by record. -/
theorem wakeAll_record (cause : WakeCause) (zones : List Zone) (s : State) (y : Zone) :
    (wakeAll cause zones s).occupancy.records[y] = if y ∈ zones then wokenRecord cause y s else s.occupancy.records[y] := by
  unfold wakeAll
  induction zones generalizing s with
  | nil => simp
  | cons z zones ih =>
    rw [List.foldl_cons, ih, wokenRecord_twice, wake_record]
    by_cases hy : y ∈ zones
    · simp [hy]
    · by_cases hz : y = z
      · subst hz; simp [hy]
      · simp [hy, hz]

/-- The wakes of a zone set, record by record. -/
theorem wakeSet_record (cause : WakeCause) (zones : ZoneSet) (s : State) (y : Zone) :
    (wakeSet cause zones s).occupancy.records[y] = if inSet zones y = true then wokenRecord cause y s else s.occupancy.records[y] := by
  rw [wakeSet, wakeAll_record]
  simp only [mem_members]

end Sys2Proof.Machine
end

