-- ==== Sys2Proof/Laws/Held.lean ====
section
/-! SUPPORT. What holding requests, applying looks, reporting asks and striking answers do. -/

namespace Sys2Proof.Machine

open Sys2Proof

/-! ## The Held List -/

/-- A list without an OCCUPY takes none in. -/
theorem mergeHeldOccupy_none (zones : ZoneSet) (cause : WakeCause) (l : List HeldRequest) (h : l.countP HeldRequest.isOccupy = 0) :
    mergeHeldOccupy zones cause l = none := by
  induction l with
  | nil => rfl
  | cons a l ih =>
    rw [List.countP_cons] at h
    have hl : l.countP HeldRequest.isOccupy = 0 := by omega
    cases a
    case occupy z c => simp [HeldRequest.isOccupy] at h
    all_goals
      rw [mergeHeldOccupy, ih hl] <;> simp

/-- The first held OCCUPY takes the newer one in, in its place. -/
theorem mergeHeldOccupy_at (zones held : ZoneSet) (cause old : WakeCause) (before after : List HeldRequest)
    (h : before.countP HeldRequest.isOccupy = 0) :
    mergeHeldOccupy zones cause (before ++ .occupy held old :: after) = some (before ++ .occupy (held ||| zones) cause :: after) := by
  induction before with
  | nil => rfl
  | cons a l ih =>
    rw [List.countP_cons] at h
    have hl : l.countP HeldRequest.isOccupy = 0 := by omega
    cases a
    case occupy z c => simp [HeldRequest.isOccupy] at h
    all_goals
      rw [List.cons_append, mergeHeldOccupy, ih hl] <;> simp

/-! ## Reports to the asker -/

/-- Outside ASKING a report of a lost ask changes nothing. -/
theorem reportLost_other (b : Bool) (s : State) (h : s.catchUp.asker ≠ .asking) : reportLost b s = s := by
  unfold reportLost askFailed
  rw [if_neg h]
  split <;> rfl

/-- A report that no ask was lost changes nothing. -/
@[simp] theorem reportLost_false (s : State) : reportLost false s = s := rfl

/-! ## Looks -/

/-- A look's merge keeps the library. -/
theorem mergeFold_library (l : List PoolSetting) (make : PoolSetting → Setting) (s : State) :
    (l.foldl (fun s p => merge p.zone (make p) s) s).zoneStore.library = s.zoneStore.library :=
  foldl_keep (fun s : State => s.zoneStore.library) _ (fun s _ => merge_library _ _ s) l s

/-- Merging one setting for each of several zones, entry by entry: a zone that is not listed stays. -/
theorem mergeFold_other (l : List PoolSetting) (make : PoolSetting → Setting) (s : State) (z : Zone)
    (h : z ∉ l.map (fun p => p.zone)) :
    (l.foldl (fun s p => merge p.zone (make p) s) s).zoneStore.table[z] = s.zoneStore.table[z] := by
  induction l generalizing s with
  | nil => rfl
  | cons a l ih =>
    simp only [List.map_cons, List.mem_cons, not_or] at h
    rw [List.foldl_cons, ih _ h.2, merge_table, if_neg h.1]

/-- Merging one setting for each of several zones, entry by entry: a zone that is listed once takes its setting's merge. -/
theorem mergeFold_listed (l : List PoolSetting) (make : PoolSetting → Setting) (s : State) (hn : (l.map (fun p => p.zone)).Nodup)
    (p : PoolSetting) (hp : p ∈ l) :
    (l.foldl (fun s p => merge p.zone (make p) s) s).zoneStore.table[p.zone] = mergedEntry s.zoneStore.table[p.zone] (make p) := by
  induction l generalizing s with
  | nil => exact absurd hp (by simp)
  | cons a l ih =>
    simp only [List.map_cons, List.nodup_cons] at hn
    rw [List.foldl_cons]
    rcases List.mem_cons.mp hp with rfl | hp
    · rw [mergeFold_other _ _ _ _ hn.1, merge_table, if_pos rfl]
    · have hne : p.zone ≠ a.zone := fun he => hn.1 (he ▸ List.mem_map_of_mem hp)
      rw [ih _ hn.2 hp, merge_table, if_neg hne]

/-! ## Answers -/

/-- The zones that the entries strike leave the set, and no other. -/
theorem strikeFold_inSet (store : ZoneStore) (entries : List SyncEntry) (answers : ZoneSet) (z : Zone) :
    inSet (entries.foldl (strikeEntry store) answers) z =
      (inSet answers z && entries.all (fun e => !(e.zone == z && answersZone store e))) := by
  induction entries generalizing answers with
  | nil => simp
  | cons e entries ih =>
    rw [List.foldl_cons, ih]
    have hs : inSet (strikeEntry store answers e) z = (inSet answers z && !(e.zone == z && answersZone store e)) := by
      unfold strikeEntry
      have hand : inSet (answers &&& ~~~(oneOf e.zone)) z = (inSet answers z && !(e.zone == z)) := by
        have h1 := oneOf_inSet e.zone z
        simp only [inSet, BitVec.getLsbD_and, BitVec.getLsbD_not] at h1 ⊢
        rw [h1]
        by_cases hz : z = e.zone
        · simp [hz]
        · have : (e.zone == z) = false := by simpa using fun h => hz h.symm
          simp [hz, this]
      by_cases hz : e.zone = z
      · subst hz
        cases ha : inSet answers e.zone <;> cases hb : answersZone store e <;> simp [hand, ha]
      · have hne : (e.zone == z) = false := by simpa using hz
        split
        · rw [hand, hne]; simp
        · simp [hne]
    rw [hs, List.all_cons, Bool.and_assoc]

/-- The groups of four are the list, in order. -/
theorem groupsOfFour_flatten {α : Type} (l : List α) : (groupsOfFour l).flatten = l := by
  induction l using groupsOfFour.induct with
  | case1 a b c d rest ih => rw [groupsOfFour, List.flatten_cons, ih]; rfl
  | case2 => rfl
  | case3 few h1 h2 => rw [groupsOfFour] <;> simp_all

/-- Each group holds one to four. -/
theorem groupsOfFour_sizes {α : Type} (l : List α) : ∀ g ∈ groupsOfFour l, 1 ≤ g.length ∧ g.length ≤ 4 := by
  induction l using groupsOfFour.induct with
  | case1 a b c d rest ih =>
    rw [groupsOfFour]
    intro g hg
    rcases List.mem_cons.mp hg with rfl | hg
    · simp
    · exact ih g hg
  | case2 => simp [groupsOfFour]
  | case3 few h1 h2 =>
    have hg : groupsOfFour few = [few] := by
      rw [groupsOfFour] <;> simp_all
    rw [hg]
    intro g h
    rw [List.mem_singleton.mp h]
    match few, h1, h2 with
    | [], _, h2 => exact absurd rfl h2
    | [_], _, _ => simp
    | [_, _], _, _ => simp
    | [_, _, _], _, _ => simp
    | a :: b :: c :: d :: rest, h1, _ => exact absurd rfl (h1 a b c d rest)

/-- Reports for records that leave, one after another: one report for each unsent SYNC_ASK among them. -/
theorem reportLost_foldl (l : List TxRecord) (s : State) :
    l.foldl (fun s r => reportLost r.unsentAsk s) s = askFailed^[l.countP TxRecord.unsentAsk] s := by
  induction l generalizing s with
  | nil => rfl
  | cons r l ih =>
    rw [List.foldl_cons, ih]
    cases h : r.unsentAsk <;> simp [reportLost, h]

/-- Settling the queue: records at rest leave, and each unsent SYNC_ASK among them is reported failed once (R93, R94). -/
theorem settle_eq (s : State) :
    settle s = askFailed^[(s.tx.records.filter fun r => !r.live).countP TxRecord.unsentAsk]
      (s.setTx { s.tx with records := s.tx.records.filter TxRecord.live }) :=
  reportLost_foldl _ _

end Sys2Proof.Machine
end

