-- ==== Sys2Proof/Laws/Port.lean ====
section
/-! SUPPORT. How requests are served, and what their arguments spell. -/

namespace Sys2Proof.Machine

open Sys2Proof

/-! ## Serving -/

/-- With no transaction open a request has no effect. -/
theorem serve_closed {α : Type} (which : Screening) (arg : Option α) (act : α → State → Served) (s : State) (h : s.port = .closed) :
    serve which arg act s = .next s := by
  simp [serve, h]

/-- A second request in a transaction has no effect. -/
theorem serve_answered {α : Type} (which : Screening) (arg : Option α) (act : α → State → Served) (s : State) (result : List Byte)
    (restarting : Bool) (h : s.port = .answered result restarting) : serve which arg act s = .next s := by
  simp [serve, h]

/-- In an open transaction a request is screened and its answer takes the port. -/
theorem serve_opened {α : Type} (which : Screening) (arg : Option α) (act : α → State → Served) (s : State) (h : s.port = .opened) :
    serve which arg act s =
      .next ((screen which arg act s).state.setPort (.answered (screen which arg act s).result (screen which arg act s).restarting)) := by
  simp [serve, h]

/-- A request never stops the node. -/
theorem serve_next {α : Type} (which : Screening) (arg : Option α) (act : α → State → Served) (s : State) :
    ∃ t, serve which arg act s = .next t := by
  unfold serve
  split <;> exact ⟨_, rfl⟩

theorem screen_loading {α : Type} (which : Screening) (arg : Option α) (act : α → State → Served) (s : State)
    (h : s.node.phase = .loading) (hs : which.isStatus = false) : screen which arg act s = refuse s .refusedPhase := by
  simp [screen, h, hs]

theorem screen_write {α : Type} (which : Screening) (arg : Option α) (act : α → State → Served) (s : State)
    (h : s.node.phase ≠ .commission) (hw : which.isWrite = true) : screen which arg act s = refuse s .refusedPhase := by
  unfold screen
  split
  · rfl
  · simp [h, hw]

theorem screen_badArgument {α : Type} (which : Screening) (act : α → State → Served) (s : State)
    (h : s.node.phase = .loading → which.isStatus = true) (hw : which.isWrite = true → s.node.phase = .commission) :
    screen which none act s = refuse s .badArgument := by
  unfold screen
  split
  · next h' => rw [h h'.1] at h'; simp at h'
  · split
    · next h' => exact absurd (hw h'.1) h'.2
    · rfl

theorem screen_busy {α : Type} (which : Screening) (x : α) (act : α → State → Served) (s : State)
    (h : s.node.phase = .loading → which.isStatus = true) (hw : which.isWrite = true → s.node.phase = .commission)
    (hn : which.needsIdle = true) (hb : s.store.isWriting = true) : screen which (some x) act s = refuse s .busy := by
  unfold screen
  split
  · next h' => rw [h h'.1] at h'; simp at h'
  · split
    · next h' => exact absurd (hw h'.1) h'.2
    · simp [hn, hb]

theorem screen_served {α : Type} (which : Screening) (x : α) (act : α → State → Served) (s : State)
    (h : s.node.phase = .loading → which.isStatus = true) (hw : which.isWrite = true → s.node.phase = .commission)
    (hb : which.needsIdle = true → s.store.isWriting = false) : screen which (some x) act s = act x s := by
  unfold screen
  split
  · next h' => rw [h h'.1] at h'; simp at h'
  · split
    · next h' => exact absurd (hw h'.1) h'.2
    · cases hn : which.needsIdle
      · simp
      · simp [hb hn]

theorem isWriting_idle (store : ConfigStore) : store.isWriting = false ↔ store.write = .idle := by
  unfold ConfigStore.isWriting
  split <;> simp_all

theorem isWriting_writing (store : ConfigStore) : store.isWriting = true ↔ store.write ≠ .idle := by
  unfold ConfigStore.isWriting
  split <;> simp_all

/-! ## Arguments -/

theorem below_ofNat (n : Nat) (hn : n ≤ 256) (z : Fin n) : below n (BitVec.ofNat 8 z.val) = some z := by
  have hz := z.isLt
  have h : z.val % 256 = z.val := Nat.mod_eq_of_lt (by omega)
  simp [below, h]

theorem below_none (n : Nat) (b : Byte) (h : n ≤ b.toNat) : below n b = none := by
  simp [below, h]

theorem fade_bits (options : Byte) : below 16 (options &&& 0x0F#8) = some ⟨options.toNat % 16, Nat.mod_lt _ (by decide)⟩ := by
  revert options
  decide +kernel

/-- The arguments of a PUBLISH_SET in range. -/
theorem setArgs_inRange (z : Zone) (r g b level options : Byte) (h : options &&& 0xE0#8 = 0) :
    setArgs (BitVec.ofNat 8 z.val) r g b level options =
      some (z, ⟨r, g, b⟩, level, ⟨options.toNat % 16, Nat.mod_lt _ (by decide)⟩, options.getLsbD 4) := by
  simp [setArgs, below_ofNat 32 (by omega) z, fade_bits, h]

/-- An options byte made of a fade code and a wake flag. -/
theorem fade_options (fade : FadeCode) (w : Bool) :
    ((BitVec.ofNat 8 fade.val ||| (if w then 0x10#8 else 0#8)) &&& 0xE0#8 = 0#8) ∧
    (BitVec.ofNat 8 fade.val ||| (if w then 0x10#8 else 0#8)).toNat % 16 = fade.val ∧
    (BitVec.ofNat 8 fade.val ||| (if w then 0x10#8 else 0#8)).getLsbD 4 = w := by
  revert fade w
  decide +kernel

/-- The arguments of a PUBLISH_SET as they are spelled. -/
theorem setArgs_spelled (z : Zone) (r g b level : Byte) (fade : FadeCode) (w : Bool) :
    setArgs (BitVec.ofNat 8 z.val) r g b level (BitVec.ofNat 8 fade.val ||| (if w then 0x10#8 else 0#8)) =
      some (z, ⟨r, g, b⟩, level, fade, w) := by
  obtain ⟨h1, h2, h3⟩ := fade_options fade w
  rw [setArgs_inRange _ _ _ _ _ _ h1, h3]
  simp only [h2]

/-- The arguments of a PUBLISH_RECALL as they are spelled. -/
theorem recallArgs_spelled (look : Look) (w : Bool) :
    recallArgs (BitVec.ofNat 8 look.val) (if w then 1#8 else 0#8) = some (look, w) := by
  cases w <;> simp [recallArgs, below_ofNat 16 (by omega) look]

end Sys2Proof.Machine
end

