-- ==== Sys2Proof/Laws/Records.lean ====
section
/-! SUPPORT. Which event records, and what of the catch-up, the operations of publishing can move. -/

namespace Sys2Proof.Machine

open Sys2Proof

/-- Two states whose Event Units differ at most in the records that publishing raises: ZONE_CHANGED, OCCUPANCY_CHANGED, TX_DROP and COUNTER_SATURATED. -/
def EventsKept (s t : State) : Prop :=
  t.events.mask = s.events.mask ∧
    t.events.records =
      { s.events.records with
        txDrop := t.events.records.txDrop, zoneChanged := t.events.records.zoneChanged,
        occupancyChanged := t.events.records.occupancyChanged, counterSaturated := t.events.records.counterSaturated }

theorem EventsKept.refl (s : State) : EventsKept s s := ⟨rfl, rfl⟩

theorem EventsKept.trans {s t u : State} (h : EventsKept s t) (h' : EventsKept t u) : EventsKept s u := by
  refine ⟨h'.1.trans h.1, ?_⟩
  rw [h'.2, h.2]

/-- An equal Event Unit is kept. -/
theorem EventsKept.of_eq {s t : State} (h : t.events = s.events) : EventsKept s t := by
  unfold EventsKept
  rw [h]
  exact ⟨rfl, rfl⟩

theorem countAt_kept (i : Fin 28) (s : State) : EventsKept s (countAt i s) := by
  refine ⟨by rw [countAt_events], ?_⟩
  rw [countAt_events]

theorem merge_kept (z : Zone) (x : Setting) (s : State) : EventsKept s (merge z x s) := by
  unfold merge
  dsimp only
  have hr : EventsKept s (raiseClock x.stamp s) := .of_eq (by simp)
  have hp : EventsKept s (replaceEntry z x (raiseClock x.stamp s)) := by
    refine hr.trans ⟨by rw [replaceEntry_events], by rw [replaceEntry_events]⟩
  split
  · exact hp
  · split
    · exact hp
    · split
      · exact hr
      · exact hr.trans (countAt_kept _ _)

theorem changeOccupancy_kept (z : Zone) (r : OccupancyRecord) (s : State) : EventsKept s (changeOccupancy z r s) :=
  ⟨by rw [changeOccupancy_events], by rw [changeOccupancy_events]⟩

theorem wake_kept (cause : WakeCause) (z : Zone) (s : State) : EventsKept s (wake cause z s) := by
  unfold wake
  dsimp only
  split
  · exact .refl s
  · exact .of_eq (by simp)
  · exact changeOccupancy_kept _ _ _
  · exact changeOccupancy_kept _ _ _

/-- What every turn of a fold keeps, the fold keeps. -/
theorem fold_kept {α : Type} (f : State → α → State) (h : ∀ s a, EventsKept s (f s a)) (l : List α) (s : State) :
    EventsKept s (l.foldl f s) := by
  induction l generalizing s with
  | nil => exact .refl s
  | cons a l ih => exact (h s a).trans (ih _)

theorem wakeAll_kept (cause : WakeCause) (zones : List Zone) (s : State) : EventsKept s (wakeAll cause zones s) :=
  fold_kept _ (fun s z => wake_kept cause z s) zones s

theorem mergeLook_kept (look : Look) (stamp : Word32) (origin : Station) (s : State) : EventsKept s (mergeLook look stamp origin s) :=
  fold_kept _ (fun s _ => merge_kept _ _ s) _ s

theorem dropRecord_kept (s : State) : EventsKept s (dropRecord s) := by
  unfold dropRecord countNode
  exact EventsKept.trans (t := countAt (nodeIndex .txDrop) s) (countAt_kept _ _) ⟨rfl, rfl⟩

theorem offerRecord_kept (p : Payload) (stamp : Word32) (s : State) : EventsKept s (offerRecord p stamp s).state := by
  unfold offerRecord
  dsimp only
  split
  · dsimp only
    split
    · exact countAt_kept _ _
    · exact .refl s
  · split
    · exact .of_eq (by simp)
    · split
      · split
        · next left _ =>
          exact EventsKept.trans (t := dropRecord (s.setTx { s.tx with records := left }))
            (EventsKept.trans (t := s.setTx { s.tx with records := left }) (.of_eq (by simp)) (dropRecord_kept _)) (.of_eq (by simp))
        · exact dropRecord_kept s
      · exact dropRecord_kept s

theorem takeStamp_kept (s : State) : EventsKept s (takeStamp s).2 := .of_eq (by simp)

theorem performSet_kept (z : Zone) (c : Colour) (l : Byte) (f : FadeCode) (w : Bool) (cause : WakeCause) (s : State) :
    EventsKept s (performSet z c l f w cause s).state := by
  unfold performSet
  have h := takeStamp_kept s
  split
  · next heq => rw [heq] at h; exact h
  · next heq =>
    rw [heq] at h
    dsimp only [publishedBy] at h ⊢
    refine EventsKept.trans ?_ (offerRecord_kept _ _ _)
    split
    · exact (h.trans (merge_kept _ _ _)).trans (wake_kept _ _ _)
    · exact h.trans (merge_kept _ _ _)

theorem performRecall_kept (k : Look) (w : Bool) (cause : WakeCause) (s : State) : EventsKept s (performRecall k w cause s).state := by
  unfold performRecall
  have h := takeStamp_kept s
  split
  · exact .refl s
  · split
    · next heq => rw [heq] at h; exact h
    · next heq =>
      rw [heq] at h
      dsimp only [publishedBy] at h ⊢
      refine EventsKept.trans ?_ (offerRecord_kept _ _ _)
      split
      · exact (h.trans (mergeLook_kept _ _ _ _)).trans (wakeAll_kept _ _ _)
      · exact h.trans (mergeLook_kept _ _ _ _)

theorem performOccupy_kept (zones : ZoneSet) (cause : WakeCause) (s : State) : EventsKept s (performOccupy zones cause s).state :=
  (wakeAll_kept cause (members zones) s).trans (offerRecord_kept _ _ _)

theorem performHeld_kept (h : HeldRequest) (s : State) : EventsKept s (performHeld h s).state := by
  cases h
  · exact performSet_kept _ _ _ _ _ _ _
  · exact performRecall_kept _ _ _ _
  · exact performOccupy_kept _ _ _
  · exact performSet_kept _ _ _ _ _ _ _

theorem createPresence_kept (s : State) : EventsKept s (createPresence s) := by
  unfold createPresence
  split
  · exact .refl s
  · split
    · exact .refl s
    · exact offerRecord_kept _ _ _

theorem releaseHeld_kept (s : State) : EventsKept s (releaseHeld s) :=
  EventsKept.trans (t := s.setCatchUp { s.catchUp with held := [] }) (.of_eq (by simp)) (fold_kept _ (fun s h => performHeld_kept h s) _ _)

/-- The release of the Held List empties it and leaves the rest of the Catch-Up Unit. -/
@[simp] theorem releaseHeld_catchUp (s : State) : (releaseHeld s).catchUp = { s.catchUp with held := [] } := by
  unfold releaseHeld
  rw [foldl_keep State.catchUp _ (fun s h => (performHeld_frame h s).2.2.2.2.1)]
  rfl

@[simp] theorem createPresence_catchUp (s : State) : (createPresence s).catchUp = s.catchUp := by
  unfold createPresence
  split
  · rfl
  · split <;> simp

/-- The entry of RUNNING: the asker FINISHED, its window stopped, the Held List empty. -/
theorem enterRunning_catchUp (how : Completion) (s : State) :
    (enterRunning how s).catchUp =
      { s.catchUp with
        asker := .finished, window := .stopped, held := [],
        incomplete := match how with
          | .incomplete => true
          | .complete => s.catchUp.incomplete } := by
  simp [enterRunning] <;> rfl

/-- The entry of RUNNING: the phase. -/
@[simp] theorem enterRunning_node (how : Completion) (s : State) : (enterRunning how s).node = { s.node with phase := .running } := by
  simp [enterRunning]

/-- The entry of RUNNING raises CATCH_UP_DONE. -/
theorem enterRunning_done (how : Completion) (s : State) : (enterRunning how s).events.records.catchUpDone = some how := by
  unfold enterRunning
  rw [(releaseHeld_kept _).2, (createPresence_kept _).2]
  simp [EventRecords.add]

end Sys2Proof.Machine
end

