-- ==== Sys2Proof/Laws/Receive.lean ====
section
/-! SUPPORT. The way of a GOOD frame that is not the node's own, from its lane to its handler. -/

namespace Sys2Proof.Machine

open Sys2Proof

/-- A GOOD frame that is not own is taken as such. -/
theorem exec_foreign (L : Lane) (bytes : List Byte) (f : Frame) (s : State) (h : ForeignFrame L bytes f s) :
    exec (.frameReceived L bytes) s = .next (takeGood L f s) := by
  simp [exec, execFrameReceived, h.taken, h.good, h.notOwn]

/-- The lanes once a frame has brought its lane UP. -/
theorem bringLaneUp_lane (L : Lane) (s : State) (h : (s.lanes.get L).state ≠ .disabled) :
    (bringLaneUp L s).lanes = s.lanes.put L { s.lanes.get L with state := .up } := by
  unfold bringLaneUp
  dsimp only
  split
  · simp [putLane]
  · next hd =>
    have hu : (s.lanes.get L).state = .up := by
      cases hs : (s.lanes.get L).state with
      | disabled => exact absurd hs h
      | up => rfl
      | down => exact absurd hs hd
    rw [← hu]
    cases L <;> rfl

/-- What the clock's rise makes of the Zone Store depends on the Zone Store alone. -/
theorem raiseClock_congr (x : Word32) (s t : State) (h : t.zoneStore = s.zoneStore) :
    (raiseClock x t).zoneStore = (raiseClock x s).zoneStore := by
  unfold raiseClock
  rw [h]
  split <;> simp [h]

/-- What a merge makes of the Zone Store depends on the Zone Store alone. -/
theorem merge_congr (z : Zone) (x : Setting) (s t : State) (h : t.zoneStore = s.zoneStore) :
    (merge z x t).zoneStore = (merge z x s).zoneStore := by
  simp only [merge_zoneStore, raiseClock_congr _ s t h, h]

/-- The rise of the clock that a merge begins with has no more to do once done. -/
theorem merge_raised (z : Zone) (x : Setting) (s : State) : (merge z x (raiseClock x.stamp s)).zoneStore = (merge z x s).zoneStore := by
  have hc : (raiseClock x.stamp (raiseClock x.stamp s)).zoneStore.clock = (raiseClock x.stamp s).zoneStore.clock := by
    apply BitVec.eq_of_toNat_eq
    simp [(raiseClock_zoneStore _ _).2]
  rw [merge_zoneStore, merge_zoneStore, hc, (raiseClock_zoneStore x.stamp s).1]

/-- What a wake makes of a record depends on the Occupancy Unit alone. -/
theorem wokenRecord_congr (cause : WakeCause) (z : Zone) (s t : State) (h : t.occupancy = s.occupancy) :
    wokenRecord cause z t = wokenRecord cause z s := by
  simp only [wokenRecord, h]

/-- A GOOD frame of another station reaches the Duplicate Filter with its lane UP, its origin heard, and nothing else moved but counts and events. -/
theorem takeGood_foreign (L : Lane) (f : Frame) (s : State) (h : s.node.station ≠ some f.origin) :
    ∃ b : State, takeGood L f s = filterFrame L f b ∧ b.lanes = (bringLaneUp L s).lanes ∧
      b = { s with lanes := b.lanes, presence := b.presence, counters := b.counters, events := b.events } := by
  have hn : (bringLaneUp L s).node.station ≠ some f.origin := by
    rw [(bringLaneUp_frame L s).2.2.2.2.2.2.2.2.2.1]
    exact h
  unfold takeGood
  dsimp only
  rw [if_neg hn]
  refine ⟨_, rfl, ?_, ?_⟩
  · simp only [hearPeer_frame]
    split <;> simp
  · apply State.eq_of_fields <;> simp only [hearPeer_frame] <;> split <;> simp

/-- A frame that the filter accepts reaches its handler with its entry written, and nothing else moved but counts and events. -/
theorem filterFrame_accepts (L : Lane) (f : Frame) (s : State)
    (h : (judge L f s.filter.timeBase (lanesUp s) s.filter.entries[f.origin]).1.accepts = true) :
    ∃ b : State, filterFrame L f s = acceptFrame f b ∧
      b.filter =
        { s.filter with
          entries := update s.filter.entries f.origin (judge L f s.filter.timeBase (lanesUp s) s.filter.entries[f.origin]).2 } ∧
      b = { s with filter := b.filter, counters := b.counters, events := b.events } := by
  unfold filterFrame
  dsimp only
  split
  · exact ⟨_, rfl, by simp, by apply State.eq_of_fields <;> simp⟩
  · exact ⟨_, rfl, by simp, by apply State.eq_of_fields <;> simp⟩
  · next hv => rw [hv] at h; exact absurd h (by decide)
  · next hv => rw [hv] at h; exact absurd h (by decide)

/-- A frame that the filter drops is counted, with its entry written, and goes no further. -/
theorem filterFrame_drops (L : Lane) (f : Frame) (s : State)
    (h : (judge L f s.filter.timeBase (lanesUp s) s.filter.entries[f.origin]).1.accepts = false) :
    (filterFrame L f s).filter =
        { s.filter with
          entries := update s.filter.entries f.origin (judge L f s.filter.timeBase (lanesUp s) s.filter.entries[f.origin]).2 } ∧
      filterFrame L f s =
        { s with filter := (filterFrame L f s).filter, counters := (filterFrame L f s).counters, events := (filterFrame L f s).events } := by
  unfold filterFrame
  dsimp only
  split
  · next hv => rw [hv] at h; exact absurd h (by decide)
  · next hv => rw [hv] at h; exact absurd h (by decide)
  · exact ⟨by simp, by apply State.eq_of_fields <;> simp⟩
  · exact ⟨by simp, by apply State.eq_of_fields <;> simp⟩

/-- The verdict on a frame that came over the lane is the one `filterJudges` names. -/
theorem judge_reached (L : Lane) (f : Frame) (s b : State) (hl : b.lanes = (bringLaneUp L s).lanes) (hf : b.filter = s.filter) :
    judge L f b.filter.timeBase (lanesUp b) b.filter.entries[f.origin] = filterJudges L f s := by
  simp only [filterJudges, hf, lanesUp, hl]

end Sys2Proof.Machine
end

