-- ==== Sys2Proof/Laws/Sound.lean ====
section
/-! SUPPORT. The parts of `Sound` at their leaves: what single operations keep of a channel, a peer record, a zone, a lane and the queue. -/

namespace Sys2Proof.Machine

open Sys2Proof

/-! ## Channels -/

theorem fadeTicks_le (code : FadeCode) : fadeTicks code ≤ 12000 := by
  revert code
  decide +kernel

/-- A target lies in 0..4095. -/
theorem targetOf_le (c l : Byte) (f : Nat) (hf : f ≤ 100) : targetOf c l f ≤ 4095 := by
  unfold targetOf
  apply Nat.div_le_of_le_mul
  have hc : c.toNat ≤ 255 := by have := c.isLt; omega
  have hl : l.toNat ≤ 255 := by have := l.isLt; omega
  calc c.toNat * l.toNat * f * 4095 ≤ 255 * 255 * 100 * 4095 := by
        exact Nat.mul_le_mul_right _ (Nat.mul_le_mul (Nat.mul_le_mul hc hl) hf)
    _ = 255 * 255 * 100 * 4095 := rfl

/-- What a sound channel says, field by field. -/
theorem channelSound_iff (c : ChannelRecord) :
    channelSound c = true ↔
      c.current ≤ 4095 ∧ c.target ≤ 4095 ∧ c.remaining ≤ 12000 ∧ c.buffer = c.current ∧ (c.remaining = 0 → c.current = c.target) := by
  simp only [channelSound, Bool.and_eq_true, decide_eq_true_eq, beq_iff_eq, Bool.or_eq_true, bne_iff_ne, ne_eq]
  tauto

/-- A fade started towards a target in range leaves a sound channel. -/
theorem startFade_sound (target : Nat) (code : FadeCode) (c : ChannelRecord) (ht : target ≤ 4095) (hc : channelSound c = true) :
    channelSound (startFade target code c) = true := by
  rw [channelSound_iff] at hc ⊢
  have hf := fadeTicks_le code
  unfold startFade
  split
  · simp [ht]
  · next h => exact ⟨hc.1, ht, hf, hc.2.2.2.1, fun h0 => absurd h0 h⟩

/-- A quotient truncated toward zero stays between 0 and its dividend. -/
theorem tdiv_between (d : Int) (r : Nat) (hr : 1 ≤ r) : min 0 d ≤ d.tdiv r ∧ d.tdiv r ≤ max 0 d := by
  rcases Int.le_total 0 d with h | h
  · have h1 : 0 ≤ d.tdiv r := Int.tdiv_nonneg h (by omega)
    have h2 : d.tdiv r ≤ d := Int.tdiv_le_self r h
    omega
  · have h1 : 0 ≤ (-d).tdiv r := Int.tdiv_nonneg (by omega) (by omega)
    have h2 : (-d).tdiv r ≤ -d := Int.tdiv_le_self r (by omega)
    rw [Int.neg_tdiv] at h1 h2
    omega

/-- One fade step stays between the current value and the target. -/
theorem fadeStep_between (c : ChannelRecord) :
    min c.current c.target ≤ (fadeStep c).current ∧ (fadeStep c).current ≤ max c.current c.target := by
  unfold fadeStep
  split
  · omega
  · next h =>
    have hb := tdiv_between ((c.target : Int) - (c.current : Int)) c.remaining (by omega)
    dsimp only
    omega

/-- One fade step, field by field. -/
theorem fadeStep_fields (c : ChannelRecord) (h : 1 ≤ c.remaining) :
    (fadeStep c).target = c.target ∧ (fadeStep c).remaining = c.remaining - 1 ∧ (fadeStep c).buffer = (fadeStep c).current ∧
      (c.remaining = 1 → (fadeStep c).current = c.target) := by
  unfold fadeStep
  rw [if_neg (by omega)]
  refine ⟨rfl, rfl, rfl, fun h1 => ?_⟩
  simp only [h1, Nat.cast_one, Int.tdiv_one]
  omega

/-- One fade step leaves a sound channel. -/
theorem fadeStep_sound (c : ChannelRecord) (hc : channelSound c = true) : channelSound (fadeStep c) = true := by
  rw [channelSound_iff] at hc ⊢
  by_cases h : c.remaining = 0
  · have he : fadeStep c = c := by rw [fadeStep, if_pos h]
    rw [he]
    exact hc
  · obtain ⟨h1, h2, h3, h4⟩ := fadeStep_fields c (by omega)
    have hb := fadeStep_between c
    refine ⟨by omega, by omega, by omega, h3, fun h0 => ?_⟩
    rw [h1]
    exact h4 (by omega)

/-- The occupancy factor is a percentage. -/
theorem stateFactor_le (cfg : OccupancyConfig) (p : OccupancyState) (h : cfg.percent ≤ 100) : stateFactor cfg p ≤ 100 := by
  cases p <;> simp [stateFactor, h]

/-- A zone's factor is a percentage. -/
theorem factorOf_le (s : State) (h : OccupancySound s) (z : Zone) : factorOf s.occupancy z ≤ 100 := by
  apply stateFactor_le
  have hz := (h z).1
  simp only [recordSound, Bool.and_eq_true, decide_eq_true_eq] at hz
  exact hz.1.1.1

/-- A recomputation of heads keeps the Head Unit sound. -/
theorem recomputeWhere_sound (p : Zone → Bool) (code : FadeCode) (s : State) (h : HeadsSound s) (ho : OccupancySound s) :
    HeadsSound (recomputeWhere p code s) := by
  by_cases hf : s.node.phase.headsFollow = true
  · intro ch
    obtain ⟨h1, h2, h3⟩ := h ch
    have hdark : channelDark (recomputeWhere p code s).heads ch = channelDark s.heads ch := by
      simp only [channelDark, recomputeWhere_config]
    have hout : (recomputeWhere p code s).heads.outputs = s.heads.outputs := by rw [recomputeWhere_heads]
    simp only [hdark, hout, recomputeWhere_frame]
    rw [recomputeWhere_channel p code s hf ch]
    split
    · next z hz =>
      split
      · unfold recomputeChannel
        split
        · next hen =>
          refine ⟨startFade_sound _ _ _ (targetOf_le _ _ _ (factorOf_le s ho z)) h1, h2, fun _ hd => ?_⟩
          unfold channelDark at hd
          rw [hz, hen] at hd
          simp at hd
        · exact ⟨by decide, h2, fun _ _ => rfl⟩
      · exact ⟨h1, h2, h3⟩
    · exact ⟨h1, h2, h3⟩
  · rw [recomputeWhere_off p code s (by simpa using hf)]
    exact h

/-! ## Peers -/

/-- A record one interval older is sound. -/
theorem agePeer_sound (r : PeerRecord) (h : peerSound r = true) : peerSound (agePeer r) = true := by
  unfold agePeer
  cases hs : r.state <;>
    simp only [peerSound, hs, PeerState.ages, agedState, if_true, Bool.false_eq_true, if_false, Bool.and_eq_true, decide_eq_true_eq, beq_iff_eq] at h ⊢
  · exact h
  · by_cases h3 : 3 ≤ min 8 (r.sinceHeard + 1)
    · simp only [h3, if_true, Bool.and_eq_true, decide_eq_true_eq, beq_iff_eq, true_and]
      omega
    · simp only [h3, if_false, Bool.and_eq_true, decide_eq_true_eq]
      omega
  · by_cases h8 : 8 ≤ min 8 (r.sinceHeard + 1)
    · simp only [h8, if_true, Bool.and_eq_true, beq_iff_eq]
      omega
    · simp only [h8, if_false, Bool.and_eq_true, decide_eq_true_eq, beq_iff_eq]
      omega
  · omega
  · exact h

/-- A record heard on a lane is sound. -/
theorem heardPeer_sound (L : Lane) (r : PeerRecord) (h : peerSound r = true) :
    peerSound { r with state := .present, sinceHeard := 0, sinceLane := r.sinceLane.put L 0 } = true := by
  have hab : r.sinceLane.a ≤ 3 ∧ r.sinceLane.b ≤ 3 := by
    simp only [peerSound, Bool.and_eq_true, decide_eq_true_eq] at h
    exact ⟨h.1.1, h.1.2⟩
  cases L <;> simp [peerSound, PerLane.put, hab]

/-! ## Zones -/

/-- A merge keeps the clock at or above every entry. -/
theorem merge_clockSound (z : Zone) (x : Setting) (s : State) (h : ClockSound s) : ClockSound (merge z x s) := by
  refine ⟨?_, ?_⟩
  · intro y e he
    rw [merge_table] at he
    rw [merge_clock]
    split at he
    · unfold mergedEntry at he
      split at he
      · simp only [Option.some.injEq] at he
        subst he
        omega
      · have := h.1 z e he
        omega
    · have := h.1 y e he
      omega
  · intro hx
    rw [merge_exhausted] at hx
    have hm := h.2 hx
    apply BitVec.eq_of_toNat_eq
    rw [merge_clock, hm]
    have := x.stamp.isLt
    simp only [maxWord, BitVec.toNat_ofNat]
    omega

/-! ## The queue -/

/-- The copies a new record begins with are sound on both lanes. -/
theorem newCopies_sound (p : Payload) (s : State) (L : Lane) :
    copySound (s.lanes.get L).state p.isPresence ((newCopies p.isPresence s).get L) 0 = true := by
  have h : ∀ (lane : LaneState) (presence fault : Bool), copySound lane presence (copyStateFor presence lane fault) 0 = true := by
    intro lane presence fault
    cases lane <;> cases presence <;> cases fault <;> decide
  cases L
  · exact h _ _ _
  · exact h _ _ _

/-- A record that enters has a live copy and none in flight. -/
theorem newRecord_live (p : Payload) (stamp : Word32) (s : State) (h : anyPending p s) :
    (newRecord p stamp s).live = true ∧ ∀ L, (newRecord p stamp s).copies.get L ≠ .inFlight := by
  have hn : ∀ (lane : LaneState) (presence fault : Bool), copyStateFor presence lane fault ≠ .inFlight := by
    intro lane presence fault
    cases lane <;> cases presence <;> cases fault <;> decide
  refine ⟨?_, fun L => ?_⟩
  · unfold anyPending at h
    unfold TxRecord.live newRecord
    rcases h with h | h <;> simp [h, CopyState.live]
  · cases L
    · exact hn _ _ _
    · exact hn _ _ _

/-- A queue that has lost a record is sound. -/
theorem queueSound_shrink (s : State) (l : List TxRecord) (hl : l.Sublist s.tx.records) (h : QueueSound s) :
    QueueSound (s.setTx { s.tx with records := l }) := by
  refine ⟨?_, ?_, fun L => ?_, fun L => ?_, ?_⟩
  · exact Nat.le_trans hl.length_le h.room
  · exact List.all_eq_true.mpr fun r hr => List.all_eq_true.mp h.live r (hl.subset hr)
  · exact Nat.le_trans (List.Sublist.countP_le hl) (h.flying L)
  · exact List.all_eq_true.mpr fun r hr => List.all_eq_true.mp (h.copies L) r (hl.subset hr)
  · exact Nat.le_trans (List.Sublist.countP_le hl) h.presence

/-- A queue with room that a record enters is sound; PRESENCE enters where none is queued. -/
theorem queueSound_enter (p : Payload) (stamp : Word32) (s : State) (h : QueueSound s) (hr : s.tx.records.length < 16) (hp : anyPending p s)
    (hq : p.isPresence = true → s.tx.records.countP (fun r => r.payload.isPresence) = 0) :
    QueueSound (s.setTx { records := s.tx.records ++ [newRecord p stamp s], nextSequence := s.tx.nextSequence + 1 }) := by
  obtain ⟨hlive, hfly⟩ := newRecord_live p stamp s hp
  refine ⟨?_, ?_, fun L => ?_, fun L => ?_, ?_⟩
  · simp only [State.setTx_tx, List.length_append, List.length_singleton, queueRoom]
    omega
  · simp only [State.setTx_tx, List.all_append, h.live, Bool.true_and, List.all_cons, List.all_nil, hlive]
  · have hf : ((newRecord p stamp s).copies.get L == .inFlight) = false := by simpa using hfly L
    simp only [flyingOn, State.setTx_tx, List.countP_append, List.countP_cons, List.countP_nil, hf]
    have := h.flying L
    simp only [flyingOn] at this
    simp
    omega
  · simp only [State.setTx_tx, State.setTx_lanes, List.all_append, h.copies L, Bool.true_and, List.all_cons, List.all_nil, Bool.and_true]
    have hz : (newRecord p stamp s).attempts.get L = 0 := by cases L <;> rfl
    rw [hz]
    exact newCopies_sound p s L
  · simp only [State.setTx_tx, List.countP_append, List.countP_cons, List.countP_nil]
    have hn : (newRecord p stamp s).payload = p := rfl
    rw [hn]
    cases hb : p.isPresence with
    | true =>
      have := hq hb
      simp
      simpa using this
    | false => simpa using h.presence

end Sys2Proof.Machine
end

