-- ==== Sys2Proof/Laws/Time.lean ====
section
/-! SUPPORT. What the passing of time changes in each block: the time base and the timers alone. An expiry is such a passing of time. -/

namespace Sys2Proof.Machine

open Sys2Proof

/-! ## Timers -/

@[simp] theorem Timer.after_stopped (n : Nat) : Timer.stopped.after n = .stopped := rfl
@[simp] theorem Timer.after_running (n left : Nat) : (Timer.running left).after n = .running (left - n) := rfl

@[simp] theorem Timer.isRunning_after (n : Nat) (t : Timer) : (t.after n).isRunning = t.isRunning := by cases t <;> rfl

@[simp] theorem Timer.left_after (n : Nat) (t : Timer) : (t.after n).left = t.left - n := by cases t <;> simp [Timer.left]

@[simp] theorem Timer.after_eq_stopped {n : Nat} {t : Timer} : t.after n = .stopped ↔ t = .stopped := by cases t <;> simp

theorem Timer.isRunning_of_ne {t : Timer} (h : t ≠ .stopped) : t.isRunning = true := by
  cases t
  · exact absurd rfl h
  · rfl

theorem Timer.ne_of_isRunning {t : Timer} (h : t.isRunning = true) : t ≠ .stopped := by rintro rfl; cases h

@[simp] theorem WriteState.after_idle (n : Nat) : WriteState.idle.after n = .idle := rfl
@[simp] theorem WriteState.after_writing (n : Nat) (a : Fin 2048) (v : Byte) (left : Nat) :
    (WriteState.writing a v left).after n = .writing a v (left - n) := rfl

/-! ## Blocks -/

@[simp] theorem expiryOf_eq (t : Timer) (s : State) : expiryOf t s = passBy t.left s := rfl
@[simp] theorem endOfWrite_eq (s : State) : endOfWrite s = passBy s.store.write.left s := rfl

@[simp] theorem passBy_pins (n : Nat) (s : State) : (passBy n s).pins = s.pins := rfl
@[simp] theorem passBy_lanes (n : Nat) (s : State) : (passBy n s).lanes = s.lanes := rfl
@[simp] theorem passBy_zoneStore (n : Nat) (s : State) : (passBy n s).zoneStore = s.zoneStore := rfl
@[simp] theorem passBy_tx (n : Nat) (s : State) : (passBy n s).tx = s.tx := rfl
@[simp] theorem passBy_node (n : Nat) (s : State) : (passBy n s).node = s.node := rfl
@[simp] theorem passBy_counters (n : Nat) (s : State) : (passBy n s).counters = s.counters := rfl
@[simp] theorem passBy_events (n : Nat) (s : State) : (passBy n s).events = s.events := rfl
@[simp] theorem passBy_port (n : Nat) (s : State) : (passBy n s).port = s.port := rfl
@[simp] theorem passBy_pending (n : Nat) (s : State) : (passBy n s).pending = s.pending := rfl

@[simp] theorem passBy_filter (n : Nat) (s : State) :
    (passBy n s).filter = { s.filter with timeBase := s.filter.timeBase + BitVec.ofNat 32 n } := rfl
@[simp] theorem passBy_presence (n : Nat) (s : State) :
    (passBy n s).presence = { s.presence with timer := s.presence.timer.after n } := rfl
@[simp] theorem passBy_catchUp (n : Nat) (s : State) :
    (passBy n s).catchUp = { s.catchUp with window := s.catchUp.window.after n, backoff := s.catchUp.backoff.after n } := rfl
@[simp] theorem passBy_heads (n : Nat) (s : State) :
    (passBy n s).heads = { s.heads with fadeTick := s.heads.fadeTick.after n, period := s.heads.period.after n } := rfl
@[simp] theorem passBy_store (n : Nat) (s : State) : (passBy n s).store = { s.store with write := s.store.write.after n } := rfl
@[simp] theorem passBy_occupancyConfig (n : Nat) (s : State) : (passBy n s).occupancy.config = s.occupancy.config := rfl
@[simp] theorem passBy_inputsConfig (n : Nat) (s : State) : (passBy n s).inputs.config = s.inputs.config := rfl

@[simp] theorem passBy_occupancyRecords (n : Nat) (s : State) :
    (passBy n s).occupancy.records =
      mapTable (fun r => { r with timer := r.timer.after n, overtaken := r.overtaken && n == 0 }) s.occupancy.records := rfl
@[simp] theorem passBy_inputRecords (n : Nat) (s : State) :
    (passBy n s).inputs.records =
      mapTable (fun r => { r with debounce := r.debounce.after n, repeating := r.repeating.after n, refresh := r.refresh.after n })
        s.inputs.records := rfl

/-! ## What the passing of time leaves -/

/-- Time passes by nothing but timers: a timeless function of the state, one that reads none of the blocks with timers, is as before. -/
theorem passBy_frame (n : Nat) (s : State) :
    passBy n s = { s with filter := (passBy n s).filter, presence := (passBy n s).presence, catchUp := (passBy n s).catchUp,
                          occupancy := (passBy n s).occupancy, inputs := (passBy n s).inputs, heads := (passBy n s).heads,
                          store := (passBy n s).store } := rfl

@[simp] theorem passBy_effective (n : Nat) (s : State) (z : Zone) : effective (passBy n s).zoneStore z = effective s.zoneStore z := rfl

@[simp] theorem passBy_factor (n : Nat) (s : State) (z : Zone) : factorOf (passBy n s).occupancy z = factorOf s.occupancy z := by
  simp [factorOf]

@[simp] theorem passBy_setPending (n : Nat) (s : State) (q : List Instr) : passBy n (s.setPending q) = (passBy n s).setPending q := rfl

/-- With supply, a step on an empty queue is 0.1 ms; without, it is nothing. -/
theorem passTime_powered (s : State) (h : s.pins.supply = true) : passTime s = passBy 1 s := by simp [passTime, h]
theorem passTime_unpowered (s : State) (h : s.pins.supply = false) : passTime s = s := by simp [passTime, h]

end Sys2Proof.Machine
end

