-- ==== Sys2Proof/Laws/Wire.lean ====
section
/-! SUPPORT. The port byte by byte: a request's bytes spell it and nothing less does, an open transaction answers it, and bytes are shifted one after another. -/

namespace Sys2Proof.Machine

open Sys2Proof

/-! ## Byte order -/

theorem join16_split16 (w : Word16) : join16 (w.extractLsb' 8 8) (w.extractLsb' 0 8) = w := by
  apply BitVec.eq_of_getLsbD_eq
  intro i hi
  simp [join16]
  grind

theorem split16_join16 (hi lo : Byte) : split16 (join16 hi lo) = [hi, lo] := by
  simp only [split16, join16, List.cons.injEq, and_true]
  constructor <;> apply BitVec.eq_of_getLsbD_eq <;> intro i h <;> simp <;> grind

theorem join32_split32 (w : Word32) :
    join32 (w.extractLsb' 24 8) (w.extractLsb' 16 8) (w.extractLsb' 8 8) (w.extractLsb' 0 8) = w := by
  apply BitVec.eq_of_getLsbD_eq
  intro i hi
  simp [join32]
  grind

theorem split32_join32 (b3 b2 b1 b0 : Byte) : split32 (join32 b3 b2 b1 b0) = [b3, b2, b1, b0] := by
  simp only [split32, join32, List.cons.injEq, and_true]
  refine ⟨?_, ?_, ?_, ?_⟩ <;> apply BitVec.eq_of_getLsbD_eq <;> intro i h <;> simp <;> grind

/-! ## Requests as bytes -/

/-- A code that is none of the fourteen is a BAD_REQUEST at once (R184). -/
theorem readRequest_bad (code : Byte) (more : List Byte) (h : code ∉ requestCodes) : readRequest (code :: more) = some (.badRequest code) := by
  simp [readRequest, h]

/-- A request's bytes, whatever follows them, spell it (R185). -/
theorem readRequest_requestBytes (c : Instr) (more : List Byte) (h : requestBytes c ≠ []) (hw : c.wellFormed = true) :
    readRequest (requestBytes c ++ more) = some c := by
  cases c with
  | badRequest code => exact readRequest_bad code more (by simpa [Instr.wellFormed] using hw)
  | _ => first
    | exact absurd rfl h
    | simp [requestBytes, readRequest, requestCodes, readDefined, split16, split32, join16_split16, join32_split32]

/-- Less than all of a request's bytes spell none (R183). -/
theorem readRequest_take (c : Instr) (n : Nat) (h : n < (requestBytes c).length) : readRequest ((requestBytes c).take n) = none := by
  cases c <;> rcases n with _ | _ | _ | _ | _ | _ | _ | n <;>
    simp [requestBytes, readRequest, requestCodes, readDefined, split16, split32] at h ⊢
  all_goals omega

/-- Bytes that spell a request begin with its bytes, and a request so spelt is well formed. -/
theorem readRequest_spells (bytes : List Byte) (c : Instr) (h : readRequest bytes = some c) :
    requestBytes c <+: bytes ∧ c.wellFormed = true := by
  cases bytes with
  | nil => simp [readRequest] at h
  | cons code rest =>
    simp only [readRequest] at h
    split at h
    · unfold readDefined at h
      split at h
      all_goals first
        | (cases h; rename_i hc; replace hc := congrArg (BitVec.ofNat 8) hc; simp only [BitVec.ofNat_toNat, BitVec.setWidth_eq] at hc
           subst hc; simp [requestBytes, Instr.wellFormed, split16_join16, split32_join32])
        | cases h
    · next hc =>
      cases h
      simpa [requestBytes, Instr.wellFormed] using hc

/-! ## Serving -/

/-- An open transaction answers every request (R183, R184). -/
theorem exec_request_answers (c : Instr) (s : State) (h : requestBytes c ≠ []) (hw : c.wellFormed = true) (hp : s.port = .opened) :
    ∃ t result restarting, exec c s = .next t ∧ t.port = .answered result restarting := by
  cases c with
  | badRequest code =>
    have hb : requestCodes.contains code = false := by simpa [Instr.wellFormed] using hw
    exact ⟨_, _, _, if_pos ⟨hp, hb⟩, rfl⟩
  | _ => first
    | exact absurd rfl h
    | exact ⟨_, _, _, serve_opened _ _ _ _ hp, rfl⟩

/-! ## Clocking -/

/-- Bytes shifted in one run after another are one run. -/
theorem clockBytes_append (first second : List Byte) (w : PortWire) :
    clockBytes (first ++ second) w =
      ((clockBytes first w).1 ++ (clockBytes second (clockBytes first w).2).1, (clockBytes second (clockBytes first w).2).2) := by
  induction first generalizing w with
  | nil => rfl
  | cons b rest ih => simp [clockBytes, ih]

end Sys2Proof.Machine
end

