-- ==== Sys2Proof/Tests/Slice0.lean ====
section
/-! SUPPORT. The author's tests: ill-formed commands refused, frames written out byte by byte, one or two small steps for each command, and for each statement a state and operands that meet its hypotheses. -/

namespace Sys2Proof.Tests

open Sys2Proof Sys2Proof.Machine

set_option Elab.async false

/-! ## Well-formedness -/

theorem test_wellFormed_refuses_known_code : Instr.wellFormed (.badRequest 0x01) = false := by decide
theorem test_wellFormed_refuses_restart_code : Instr.wellFormed (.badRequest 0x7F) = false := by decide
theorem test_wellFormed_takes_unknown_code : Instr.wellFormed (.badRequest 0x21) = true := by decide

/-! ## Small states -/

/-- The state a command leads to. -/
def after (c : Instr) (s : State) : State :=
  match exec c s with
  | .next t => t
  | .fault _ => s
  | .refused _ => s

/-- The setting of the zone in the sample. -/
def held61 : Setting := { colour := ⟨200, 120, 160⟩, level := 128, fade := 5, stamp := 61, origin := 4, source := .set }

/-- The sample's library: look 2 sets zones 3 and 5, every other look is undefined. -/
def sampleLibrary : LookLibrary :=
  { directory := update (Vector.replicate 16 { start := 0, count := 0 }) 2 { start := 1, count := 2 }
    pool := update (update (Vector.replicate 240 { zone := 0, colour := ⟨0, 0, 0⟩, level := 0, fade := 0 }) 1
      { zone := 3, colour := ⟨10, 20, 30⟩, level := 40, fade := 6 }) 2 { zone := 5, colour := ⟨50, 60, 70⟩, level := 80, fade := 7 } }

/-- The sample's inputs: a sensor of zone 3, a recall of look 2, RAISE and OFF of zone 3, and four unused. -/
def sampleInputs : Vector InputConfig 8 :=
  update (update (update (update (Vector.replicate 8 InputConfig.unused)
    0 { kind := .sensor 3, activeLow := false, debounce := 1 })
    1 { kind := .recall 2, activeLow := false, debounce := 1 })
    2 { kind := .action .raise 3 16, activeLow := true, debounce := 1 })
    3 { kind := .action .off 3 0, activeLow := false, debounce := 1 }

/-- An occupancy record as the entry of LISTEN left its cause, no expiry overtaken. -/
def zoneRecord (state : OccupancyState) (timer : Timer) : OccupancyRecord :=
  { state := state, timer := timer, cause := .start, overtaken := false }

/-- Station 4 in RUNNING, both lanes UP, zone 3 HELD and OCCUPIED, head 0 on zone 3, a transaction open. -/
def running : State :=
  { State.reset with
    lanes := ⟨{ state := .up, abandons := 0 }, { state := .up, abandons := 0 }⟩
    presence := { peers := update (Vector.replicate 32 PeerRecord.reset) 4 { PeerRecord.reset with state := .self }, timer := .running 0, interval := 10000 }
    zoneStore := { ZoneStore.reset with
      table := update (Vector.replicate 32 none) 3 (some held61), clock := 61, library := some sampleLibrary, checksum := some 0x1234 }
    catchUp := { CatchUpUnit.reset with asker := .finished }
    occupancy := {
      config := update (Vector.replicate 32 OccupancyConfig.zero) 3 { enable := true, grace := 5, vacant := 2, percent := 40, fade := 4 }
      records := update (Vector.replicate 32 OccupancyRecord.reset) 3 (zoneRecord .occupied (.running 0)) }
    inputs := { config := sampleInputs, records := Vector.replicate 8 InputRecord.reset }
    heads := { HeadUnit.reset with
      config := update (Vector.replicate 4 HeadConfig.none) 0 { zone := some 3, red := true, green := true, blue := true }
      fadeTick := .running 0, period := .running 0 }
    node := { State.reset.node with phase := .running, loading := .ended, station := some 4, startCounter := 7, startTag := 7 }
    events := { EventUnit.reset with mask := BitVec.allOnes 14 }
    port := .opened }

/-- The sample in another phase, with the asker where that phase has it. -/
def inPhase (p : Phase) (a : AskerState) : State :=
  (running.setNode { running.node with phase := p }).setCatchUp { running.catchUp with asker := a }

/-- A SET record of zone 3 whose copies and failed attempts are given. -/
def setRecord (a b : CopyState) (failed : Nat) : TxRecord :=
  { payload := .set 3 ⟨200, 120, 160⟩ 128 5 false, startTag := 7, sequence := 0, stamp := 61, copies := ⟨a, b⟩, attempts := ⟨failed, 0⟩ }

/-- A PRESENCE record, both copies PENDING. -/
def presenceRecord : TxRecord :=
  { payload := .presence 0x1234 .running false false, startTag := 7, sequence := 1, stamp := 61, copies := ⟨.pending, .pending⟩, attempts := ⟨0, 0⟩ }

/-- A SYNC_ASK record, both copies PENDING. -/
def askRecord : TxRecord :=
  { payload := .syncAsk allZones, startTag := 7, sequence := 1, stamp := 0, copies := ⟨.pending, .pending⟩, attempts := ⟨0, 0⟩ }

/-- The sample with records in its queue. -/
def queued (l : List TxRecord) : State := running.setTx { running.tx with records := l }

/-- The sample with its zone's occupancy record replaced. -/
def occupied (r : OccupancyRecord) : State := putOccupancy 3 r running

/-- The sample with one input record replaced. -/
def lineRecord (i : Line) (r : InputRecord) : State := putInput i r running

/-- The sample with one input line high. -/
def lineHigh (i : Line) (s : State) : State := s.setPins { s.pins with inputLines := update s.pins.inputLines i true }

/-- A node in LOADING that has read the store. -/
def checked (found : Validation) (write : WriteState) : State :=
  (State.reset.setNode { State.reset.node with loading := .checked found, startCounter := 0x01A7, startTag := 0xA7 }).setStore
    { State.reset.store with write := write }

/-- A valid configuration of station 21. -/
def sampleConfiguration : Configuration :=
  { station := 21, laneUse := ⟨true, false⟩, rate := 1, mask := 3, heads := running.heads.config, inputs := sampleInputs, presence := 1,
    defaults := ZoneStore.reset.defaults, occupancy := running.occupancy.config, library := sampleLibrary, checksum := 0x1234 }

/-! ## Frames, written out from the layouts of R25 to R33 -/

/-- The check value of the CRC: over the nine digits "123456789" it is 0x29B1. -/
theorem test_crc_check_value : crc16 [0x31, 0x32, 0x33, 0x34, 0x35, 0x36, 0x37, 0x38, 0x39] = 0x29B1 := by decide +kernel

/-- SET of station 17 on Lane A, start tag 40, sequence 519, stamp 61: zone 3, colour, level 128, fade 5, wake. -/
def setFrame : List Byte :=
  [0x28#8, 0x11, 0x28, 0x02, 0x07, 0x00, 0x00, 0x00, 0x3D, 0x06, 0x03, 0xC8, 0x78, 0xA0, 0x80, 0x15, 0x44, 0x0A]

def setFrameFields : Frame :=
  { origin := 17, laneTag := .A, startTag := 40, sequence := 519, stamp := 61, payload := .set 3 ⟨200, 120, 160⟩ 128 5 true }

theorem test_frame_set : classify setFrame = .good setFrameFields := by decide +kernel

/-- PRESENCE of station 20 with lane tag B: checksum 0x5A3C, RUNNING, single lane. -/
def presenceFrame : List Byte :=
  [0x10#8, 0x94, 0x09, 0x00, 0x05, 0x00, 0x00, 0x00, 0x46, 0x04, 0x5A, 0x3C, 0x03, 0x02, 0xA5, 0x3B]

def presenceFrameFields : Frame :=
  { origin := 20, laneTag := .B, startTag := 9, sequence := 5, stamp := 70, payload := .presence 0x5A3C .running false true }

theorem test_frame_presence : classify presenceFrame = .good presenceFrameFields := by decide +kernel

/-- RECALL of look 2 with checksum 0x1234 and wake. -/
def recallFrame : List Byte :=
  [0x38#8, 0x11, 0x28, 0x02, 0x08, 0x00, 0x00, 0x00, 0x3E, 0x04, 0x02, 0x12, 0x34, 0x01, 0xEA, 0x2C]

def recallFrameFields : Frame :=
  { origin := 17, laneTag := .A, startTag := 40, sequence := 520, stamp := 62, payload := .recall 2 0x1234 true }

theorem test_frame_recall : classify recallFrame = .good recallFrameFields := by decide +kernel

/-- OCCUPY of zone 3, the set's lowest byte last. -/
def occupyFrame : List Byte :=
  [0x48#8, 0x11, 0x28, 0x02, 0x09, 0x00, 0x00, 0x00, 0x3E, 0x04, 0x00, 0x00, 0x00, 0x08, 0x6D, 0xFD]

def occupyFrameFields : Frame :=
  { origin := 17, laneTag := .A, startTag := 40, sequence := 521, stamp := 62, payload := .occupy (oneOf 3) }

theorem test_frame_occupy : classify occupyFrame = .good occupyFrameFields := by decide +kernel

/-- SYNC_ASK for every zone. -/
def askFrame : List Byte := [0x50#8, 0x11, 0x28, 0x02, 0x0A, 0x00, 0x00, 0x00, 0x3E, 0x04, 0xFF, 0xFF, 0xFF, 0xFF, 0xE9, 0x69]

def askFrameFields : Frame :=
  { origin := 17, laneTag := .A, startTag := 40, sequence := 522, stamp := 62, payload := .syncAsk allZones }

theorem test_frame_syncAsk : classify askFrame = .good askFrameFields := by decide +kernel

/-- SYNC_ENTRY of one entry: zone 3, stamp 70, origin 20, source SET. -/
def entryFrame : List Byte :=
  [0x60#8, 0x11, 0x28, 0x02, 0x0B, 0x00, 0x00, 0x00, 0x3E, 0x0C, 0x03, 0x01, 0x02, 0x03, 0x80, 0x05, 0x00, 0x00, 0x00, 0x46, 0x14, 0xFF,
   0x2C, 0xD2]

def entryFrameFields : Frame :=
  { origin := 17, laneTag := .A, startTag := 40, sequence := 523, stamp := 62,
    payload := .syncEntry
      [{ zone := 3, setting := { colour := ⟨1, 2, 3⟩, level := 128, fade := 5, stamp := 70, origin := 20, source := .set } }] }

theorem test_frame_syncEntry : classify entryFrame = .good entryFrameFields := by decide +kernel

/-- One damaged bit of the CRC. -/
def damagedFrame : List Byte := setFrame.set 17 0x0B

theorem test_frame_damaged : classify damagedFrame = .crcError := by decide +kernel

/-- The bytes of the node's own SET copy on Lane A. -/
def ownFrame : List Byte :=
  [0x28#8, 0x04, 0x07, 0x00, 0x00, 0x00, 0x00, 0x00, 0x3D, 0x06, 0x03, 0xC8, 0x78, 0xA0, 0x80, 0x05, 0xA9, 0xD0]

theorem test_frame_own : copyBytes 4 .A (setRecord .inFlight .pending 0) = ownFrame := by decide +kernel

/-- A PRESENCE that bears the node's own station. -/
def conflictFrame : List Byte :=
  [0x10#8, 0x04, 0x09, 0x00, 0x05, 0x00, 0x00, 0x00, 0x46, 0x04, 0x5A, 0x3C, 0x03, 0x02, 0x06, 0x2F]

/-! ## One or two steps for each command -/

theorem test_powerOn : (after .powerOn running).node.loading = .reading ∧ (after .powerOn running).zoneStore = ZoneStore.reset := by decide +kernel

theorem test_resetLineAssert :
    (after .resetLineAssert (running.setStore { running.store with write := .writing 0x03F 5 1 })).node.cause.interruptedWrite = true ∧
    Memory.read (after .resetLineAssert (running.setStore { running.store with array := [(0x03F, 1)], write := .writing 0x03F 5 1 })).store.array 0x03F = 0xFF := by
  decide +kernel

theorem test_resetLineRelease :
    (after .resetLineRelease (after .resetLineAssert (running.setPins { running.pins with setupLine := true }))).node.setupSample = true ∧
    (after .resetLineRelease (after .resetLineAssert running)).node.cause.kind = .resetLine := by decide +kernel

/-- The example of chapter 10: a stored start counter 0x01A6 becomes 0x01A7 with the tag 0xA7, as far as the advance goes. -/
theorem test_startCounter_advances :
    join16 0x01 0xA6 + 1 = 0x01A7 ∧ (join16 0x01 0xA6 + 1).extractLsb' 0 8 = 0xA7#8 := by decide

theorem test_loadingReadDone_needs_loading : exec .loadingReadDone running = .next running := rfl

theorem test_startCounterWriteDone_first :
    (after .startCounterWriteDone (checked (.invalid .node) (.writing 0 0x01 3))).store.write = .writing 1 0xA7 40 := by decide +kernel

theorem test_startCounterWriteDone_second :
    (after .startCounterWriteDone (checked (.valid sampleConfiguration) (.writing 1 0xA7 0))).node.phase = .listen ∧
    (after .startCounterWriteDone (checked (.valid sampleConfiguration) (.writing 1 0xA7 0))).lanes = ⟨⟨.up, 0⟩, ⟨.disabled, 0⟩⟩ := by
  decide +kernel

theorem test_frameReceived_set :
    (after (.frameReceived .B setFrame) running).zoneStore.table[(3 : Zone)] =
      some { colour := ⟨200, 120, 160⟩, level := 128, fade := 5, stamp := 61, origin := 17, source := .set } := by decide +kernel

theorem test_frameReceived_conflict : (after (.frameReceived .A conflictFrame) running).node.phase = .mute := by decide +kernel

theorem test_copyStart :
    (after (.copyStart .A) (queued [presenceRecord, setRecord .pending .sent 0])).tx.records =
      [presenceRecord, setRecord .inFlight .sent 0] := by decide +kernel

theorem test_contestLost :
    (after (.contestLost .A) (queued [setRecord .inFlight .sent 14])).tx.records = [setRecord .pending .sent 15] ∧
    (after (.contestLost .A) (queued [setRecord .inFlight .sent 15])).tx.records = [] := by decide +kernel

theorem test_copyEndNothingTakenBack :
    (after (.copyEndNothingTakenBack .A) (queued [setRecord .inFlight .sent 15])).lanes.a = { state := .up, abandons := 1 } := by decide +kernel

theorem test_laneFaultAssert :
    (after (.laneFaultAssert .A) (queued [setRecord .inFlight .pending 0])).lanes.a.state = .down ∧
    (after (.laneFaultAssert .A) (queued [setRecord .inFlight .pending 0])).tx.records = [setRecord .abandoned .pending 0] := by decide +kernel

theorem test_laneFaultClear :
    (after (.laneFaultClear .A) (after (.laneFaultAssert .A) running)).lanes.a.state = .down := by decide +kernel

theorem test_presenceExpiry :
    (after .presenceExpiry running).tx.records.map (fun r => r.payload) = [.presence 0x1234 .running false false] := by decide +kernel

theorem test_presenceExpiry_second_in_listen :
    (after .presenceExpiry ((inPhase .listen .idle).setNode { running.node with phase := .listen, listenExpiries := 1 })).node.phase = .catchUp := by
  decide +kernel

theorem test_catchUpWindowExpiry :
    (after .catchUpWindowExpiry ((inPhase .catchUp .window).setCatchUp { running.catchUp with asker := .window, window := .running 0 })).node.phase =
      .running := by decide +kernel

theorem test_backoffExpiry :
    (after .backoffExpiry (running.setCatchUp { running.catchUp with answers := oneOf 3, backoff := .running 0 })).tx.records.map (fun r => r.payload) =
      [.syncEntry [{ zone := 3, setting := held61 }]] := by decide +kernel

theorem test_graceExpiry :
    (after (.graceExpiry 3) running).occupancy.records[(3 : Zone)] = zoneRecord .vacant (.running 2400000) := by
  decide +kernel

/-- The time the timer still has passes first (log 3). -/
theorem test_graceExpiry_lets_its_time_pass :
    (after (.graceExpiry 3) (occupied (zoneRecord .occupied (.running 7)))).filter.timeBase = 7 := by decide +kernel

/-- A wake taken first, with the expiry due, and then the expiry: it does not happen (R126). -/
theorem test_graceExpiry_overtaken_by_a_wake :
    (after (.graceExpiry 3) (wake .port 3 running)).occupancy.records[(3 : Zone)] =
      { state := .occupied, timer := .running 3000000, cause := .port, overtaken := false } ∧
    (after (.graceExpiry 3) (wake .port 3 running)).events = running.events := by decide +kernel

/-- The expiry after the overtaken one is the restarted grace time's, and once time passes the overtaken one is past. -/
theorem test_graceExpiry_after_the_overtaken_one :
    (after (.graceExpiry 3) (after (.graceExpiry 3) (wake .port 3 running))).occupancy.records[(3 : Zone)].state = .vacant ∧
    (after (.graceExpiry 3) (passTime (wake .port 3 running))).occupancy.records[(3 : Zone)].state = .vacant := by decide +kernel

theorem test_vacantExpiry :
    (after (.vacantExpiry 3) (occupied { state := .vacant, timer := .running 0, cause := .port, overtaken := false })).occupancy.records[(3 : Zone)] =
      { state := .dark, timer := .stopped, cause := .port, overtaken := false } := by decide +kernel

theorem test_inputLevelChange :
    (after (.inputLevelChange 0 true) running).inputs.records[(0 : Line)].debounce = .running 80 := by decide +kernel

theorem test_debounceExpiry :
    (after (.debounceExpiry 0) (lineHigh 0 (lineRecord 0 { InputRecord.reset with debounce := .running 0 }))).occupancy.records[(3 : Zone)].cause =
      .localSensor := by decide +kernel

theorem test_repeatExpiry :
    (effective (after (.repeatExpiry 2) (lineRecord 2 { InputRecord.reset with active := true, repeating := .running 0 })).zoneStore 3).level = 144 := by
  decide +kernel

theorem test_refreshExpiry :
    (after (.refreshExpiry 0) (lineRecord 0 { InputRecord.reset with active := true, refresh := .running 0 })).inputs.records[(0 : Line)].refresh =
      .running 200000 := by decide +kernel

theorem test_fadeTick :
    (after .fadeTick (running.setHeads { running.heads with
      channels := update running.heads.channels 0 { current := 100, target := 50, remaining := 3, buffer := 100 } })).heads.channels[(0 : Channel)] =
      { current := 84, target := 50, remaining := 2, buffer := 84 } := by decide +kernel

theorem test_pwmPeriodStart :
    (after .pwmPeriodStart (running.setHeads { running.heads with
      channels := update running.heads.channels 0 { current := 84, target := 50, remaining := 2, buffer := 84 } })).heads.outputs[(0 : Channel)] = 84 := by
  decide +kernel

/-- A period of 20 units, 5 of them past: an output of half duty is high, one of a quarter has just become low. -/
theorem test_outputHigh :
    let h : HeadUnit := { HeadUnit.reset with rate := 1, period := .running 15, outputs := update (update HeadUnit.reset.outputs 0 2048) 1 1023 }
    outputHigh h 0 = true ∧ outputHigh h 1 = false ∧ outputHigh h 2 = false := by decide +kernel

theorem test_status :
    (after .status running).port =
      .answered [0, 4, 0, 0xFF, 4, 0x05, 0, 0, 0, 0, 61, 0, 7, 0, 0, 0] false := by decide +kernel

theorem test_nextEvent :
    (after .nextEvent (raise (.zoneChanged (oneOf 3)) (raise (.laneUp (oneLane .B)) running))).port = .answered [0, 3, 0, 0, 0, 2] false := by
  decide +kernel

theorem test_publishSet :
    (after (.publishSet 3 1 2 3 4 0x15) running).zoneStore.clock = 62 ∧
    (after (.publishSet 3 1 2 3 4 0x15) running).port = .answered [0] false := by decide +kernel

theorem test_publishRecall :
    (after (.publishRecall 2 0) running).port = .answered [0] false ∧
    (after (.publishRecall 3 0) running).port = .answered [7] false := by decide +kernel

theorem test_publishOccupy : (after (.publishOccupy (oneOf 3)) (inPhase .mute .finished)).port = .answered [5] false := by decide +kernel

theorem test_readZone :
    (after (.readZone 3) running).port =
      .answered [0, 1, 200, 120, 160, 128, 5, 0, 0, 0, 61, 4, 0xFF, 200, 120, 160, 128, 5, 1, 0, 0, 0] false := by decide +kernel

theorem test_readPeer :
    (after (.readPeer 4) running).port =
      .answered [0, 4, 8, 0x0F, 0, 0, 0, 0, 0, 0, 0, 0, 0, 0, 0, 0, 0, 0, 0, 0, 0, 0, 0, 0] false := by decide +kernel

theorem test_readHead : (after (.readHead 4) running).port = .answered [4] false := by decide +kernel

theorem test_capture :
    (after .capture (countLane .A .rxGood running)).counters.capture[(0 : Fin 28)] = 1 ∧
    (after .capture (countLane .A .rxGood running)).counters.live[(0 : Fin 28)] = 0 := by decide +kernel

theorem test_readCounter :
    (after (.readCounter 27 1) running).port = .answered [0, 0, 0, 0, 0] false ∧
    (after (.readCounter 27 2) running).port = .answered [4] false := by decide +kernel

theorem test_configPoint : (after (.configPoint 2047) running).store.pointer = 2047 := by decide +kernel

theorem test_configRead :
    (after (.configRead 1) (running.setStore { running.store with array := [(2047, 7)], pointer := 2047 })).port = .answered [0, 7] false := by
  decide +kernel

theorem test_configWrite :
    (after (.configWrite 9) (inPhase .commission .idle)).store.write = .writing 0 9 40 ∧
    (after (.configWrite 9) running).port = .answered [3] false := by decide +kernel

theorem test_configWriteDone :
    (after .configWriteDone ((inPhase .commission .idle).setStore { running.store with write := .writing 0 9 0 })).store =
      { array := [(0, 9)], pointer := 1, direction := .none, write := .idle } := by decide +kernel

theorem test_restart :
    (after .chipSelectRelease (after .restart running)).node.cause.kind = .restart ∧
    (after .restart (running.setStore { running.store with write := .writing 0 9 0 })).port = .answered [2] false := by decide +kernel

theorem test_badRequest : (after (.badRequest 0x21) State.reset).port = .closed ∧
    (after (.badRequest 0x21) (State.reset.setPort .opened)).port = .answered [9] false := by decide +kernel

theorem test_chipSelectRelease : (after .chipSelectRelease running).port = .closed := by decide +kernel

theorem test_lossOfSupply : (after .lossOfSupply running).node.loading = .held := by decide +kernel

theorem test_chipSelectAssert :
    (after .chipSelectAssert State.reset).port = .opened ∧ (after .chipSelectAssert (after .resetLineAssert running)).port = .closed := by
  decide +kernel

theorem test_setupLineChange : (after (.setupLineChange true) running).node.setupSample = false := by decide +kernel

/-! ## The port byte by byte -/

theorem test_clock_readHead :
    (clockBytes [0x23#8, 0x04, 0x55, 0x55] { shiftedIn := [], node := running }).1 = [0, 0, 4, 0] := by decide +kernel

theorem test_clock_undefined_code :
    (clockBytes [0x21#8, 0x00, 0x00] { shiftedIn := [], node := running }).1 = [0, 9, 0] := by decide +kernel

theorem test_shiftedBits : shiftedBits 0x8A#8 = [true, false, false, false, true, false, true, false] := by decide

/-! ## Time -/

theorem test_idle_step_counts_the_time_base : ∃ t, step running = .next t ∧ t.filter.timeBase = 1 := ⟨_, rfl, by decide +kernel⟩

/-! ## Witnesses: states and operands that meet the hypotheses of the statements, named after them -/

theorem witness_EmptyQueuePassesTime :
    running.pending = [] ∧ running.pins.supply = true ∧ running.store.write = .idle ∧
    (after .lossOfSupply running).pending = [] ∧ (after .lossOfSupply running).pins.supply = false ∧
    (checked (.invalid .node) (.writing 0 1 3)).store.write = .writing 0 1 3 := by decide +kernel

theorem running_storeWf : StoreWf running := by
  unfold StoreWf
  decide +kernel

theorem running_phaseSound : PhaseSound running := by
  constructor <;> decide +kernel

theorem running_writeSound : WriteSound running := by
  refine ⟨fun a v n h => ?_, fun found h => ?_, fun c h => ?_⟩
  · exact absurd h (by simp [running, State.reset, ConfigStore.reset])
  · exact absurd h (by simp [running])
  · exact absurd h (by simp [running])

theorem running_clockSound : ClockSound running := by
  refine ⟨?_, by decide +kernel⟩
  have h : ∀ z : Zone, (running.zoneStore.table[z]).all (fun x => decide (x.stamp.toNat ≤ running.zoneStore.clock.toNat)) = true := by
    decide +kernel
  intro z x hx
  have hz := h z
  rw [hx] at hz
  simpa using hz

theorem queueSound_of (s : State) (h : s.tx.records.length ≤ 16) (hl : s.tx.records.all TxRecord.live = true)
    (hf : flyingOn .A s.tx.records ≤ 1 ∧ flyingOn .B s.tx.records ≤ 1)
    (hc : ∀ L ∈ [Lane.A, Lane.B], s.tx.records.all
      (fun r => copySound (s.lanes.get L).state r.payload.isPresence (r.copies.get L) (r.attempts.get L)) = true)
    (hp : s.tx.records.countP (fun r => r.payload.isPresence) ≤ 1) : QueueSound s := by
  refine ⟨h, hl, fun L => ?_, fun L => ?_, hp⟩
  · cases L
    · exact hf.1
    · exact hf.2
  · exact hc L (by cases L <;> simp)

theorem running_queueSound : QueueSound running := by
  apply queueSound_of <;> decide +kernel

theorem running_lanesSound : LanesSound running := by
  intro L
  cases L <;> decide +kernel

theorem witness_EveryStepKeepsTheNodeSound : Sound running ∧ ∃ t, step running = .next t := by
  refine ⟨⟨running_storeWf, running_phaseSound, ?_, running_writeSound, running_clockSound, running_queueSound, ?_, running_lanesSound,
    ?_, ?_, ?_, ?_⟩, _, rfl⟩
  · intro h
    exact absurd rfl h
  · unfold HeldSound
    decide +kernel
  · unfold PeersSound
    decide +kernel
  · unfold OccupancySound
    decide +kernel
  · unfold InputsSound
    decide +kernel
  · unfold HeadsSound
    decide +kernel

theorem witness_NoCommandStopsTheNode :
    State.reset.presence.timer = .stopped ∧ State.reset.catchUp.window = .stopped ∧ State.reset.catchUp.backoff = .stopped ∧
    State.reset.occupancy.records[(0 : Zone)].state ≠ .occupied ∧ State.reset.occupancy.records[(0 : Zone)].state ≠ .vacant ∧
    State.reset.inputs.records[(0 : Line)] = InputRecord.reset ∧ State.reset.heads.fadeTick = .stopped ∧ State.reset.heads.period = .stopped ∧
    running.node.phase ≠ .loading ∧ running.node.loading = .ended ∧ running.store.write = .idle ∧
    (State.reset.lanes.get .A).state = .disabled ∧ running.tx.records = [] ∧ State.reset.port ≠ .opened ∧ requestBytes .status ≠ [] ∧
    0x7F#8 ∈ requestCodes ∧ running.port ≠ .closed ∧ State.reset.port = .closed ∧ State.reset.pins.resetLine = false ∧
    (after .resetLineAssert running).pins.resetLine = true ∧ running.pins.faultLines.get .A = false ∧
    (after (.laneFaultAssert .A) running).pins.faultLines.get .A = true := by decide +kernel

theorem witness_EntriesAndClockNeverFall :
    ∃ t, step running = .next t ∧ t.node.phase ≠ .loading ∧ running.zoneStore.table[(3 : Zone)] = some held61 :=
  ⟨_, rfl, by decide +kernel, by decide +kernel⟩

theorem witness_CountersOnlyRise : ∃ t, exec .fadeTick running = .next t ∧ t.node.phase ≠ .loading ∧ Instr.fadeTick ≠ .capture :=
  ⟨_, rfl, by decide +kernel, by decide⟩

theorem witness_StoreChangesOnlyInCommission :
    StoreWf running ∧ PhaseSound running ∧ WriteSound running ∧ (∃ t, step running = .next t) ∧ running.node.phase ≠ .commission ∧
    running.node.phase ≠ .loading :=
  ⟨running_storeWf, running_phaseSound, running_writeSound, ⟨_, rfl⟩, by decide, by decide⟩

/-- A frame never stops the node. -/
theorem frame_next (L : Lane) (bytes : List Byte) (s : State) : exec (.frameReceived L bytes) s = .next (after (.frameReceived L bytes) s) := by
  unfold after
  simp only [exec, execFrameReceived]
  split
  · split <;> first | rfl | (split <;> rfl)
  · rfl

theorem witness_PhasesMoveOnlyAsListed :
    PhaseSound running ∧ LanesSound running ∧ ∃ t, exec (.frameReceived .A conflictFrame) running = .next t ∧ t.node.phase ≠ running.node.phase :=
  ⟨running_phaseSound, running_lanesSound, _, frame_next _ _ _, by decide +kernel⟩

theorem witness_StampOrderIsLexicographic :
    ∃ x y z : Setting, x.stamp = 61 ∧ x.origin = 4 ∧ y.stamp = 53 ∧ y.origin = 9 ∧ z.stamp = 61 ∧ z.origin = 17 :=
  ⟨held61, { held61 with stamp := 53, origin := 9 }, { held61 with origin := 17 }, by decide⟩

/-- The sample's heads with the green channel of head 0 masked off. -/
def maskedHeads : HeadUnit :=
  { running.heads with config := update running.heads.config 0 { zone := some 3, red := true, green := false, blue := true } }

theorem witness_MergeKeepsTheHigherSetting :
    maskedHeads.config[headOf 1].zone = some 3 ∧ channelEnabled maskedHeads.config[headOf 1] 1 = false ∧ running.zoneStore.table[(5 : Zone)] = none ∧ running.zoneStore.table[(3 : Zone)] = some held61 ∧
    higher { held61 with origin := 17 } held61 = true ∧ samePair held61 held61 = true ∧ higher held61 { held61 with stamp := 60 } = true ∧
    running.node.phase.headsFollow = true ∧ State.reset.node.phase.headsFollow = false ∧ lights running.heads 3 2 ∧
    running.heads.config[headOf 3].zone ≠ some 3 := by
  unfold lights
  decide +kernel

theorem witness_MergeOrderDoesNotMatter :
    samePair held61 { held61 with stamp := 60 } = false ∧ samePair held61 { held61 with level := 1 } = true := by decide

/-- The sample with its clock one below its greatest value, and at it. -/
def clockAt (c : Word32) : State := running.setZoneStore { running.zoneStore with clock := c }

theorem witness_PublishSetPerforms :
    (running.port = .opened ∧ running.node.phase = .running ∧ running.catchUp.asker = .finished ∧ ClockSound running) ∧
    ((0x1F#8 &&& 0xE0#8 = 0) ∧ (0x00#8 &&& 0xE0#8 = 0)) ∧ running.zoneStore.clock ≠ maxWord ∧
    (clockAt maxWord).port = .opened ∧ (clockAt maxWord).node.phase = .running ∧ (clockAt maxWord).zoneStore.clock = maxWord :=
  ⟨⟨rfl, rfl, rfl, running_clockSound⟩, by decide +kernel, by decide +kernel, rfl, rfl, rfl⟩

theorem witness_PublishRecallPerforms :
    lookSettings running.zoneStore 3 = [] ∧ lookSettings running.zoneStore 15 = [] ∧ lookSettings running.zoneStore 2 ≠ [] ∧
    lookSettings (clockAt maxWord).zoneStore 2 ≠ [] ∧ (clockAt maxWord).zoneStore.clock = maxWord ∧ (lookZones running.zoneStore 2).Nodup ∧ running.zoneStore.clock ≠ maxWord := by decide +kernel

/-- A node in LOADING with a transaction open. -/
def loadingOpen : State := State.reset.setPort .opened

/-- A state in CATCH_UP with the given number of held RECALL requests. -/
def holding (n : Nat) : State :=
  (inPhase .catchUp .asking).setCatchUp { running.catchUp with asker := .asking, held := List.replicate n (.recall 2 false .port) }

theorem witness_PublicationsFollowThePhase :
    (holding 7).port = .opened ∧ (holding 7).node.phase = .catchUp ∧ (holding 7).catchUp.held.length < 8 ∧ 8 ≤ (holding 8).catchUp.held.length ∧
    (inPhase .listen .idle).node.phase = .listen ∧ (inPhase .commission .idle).node.phase = .commission ∧
    (inPhase .mute .finished).node.phase = .mute ∧ loadingOpen.port = .opened ∧ loadingOpen.node.phase = .loading := by decide

/-- A SYNC_ENTRY's entry. -/
def sampleEntry : SyncEntry := { zone := 3, setting := held61 }

theorem witness_SentFramesReadBack :
    (Payload.set 3 ⟨1, 2, 3⟩ 4 5 true).sendable ∧ (Payload.occupy 1).sendable ∧ (Payload.syncAsk allZones).sendable ∧
    (Payload.syncEntry [sampleEntry]).sendable ∧ (Payload.syncEntry (List.replicate 4 sampleEntry)).sendable := by
  simp [Payload.sendable, allZones]

theorem witness_GoodFramesSpellThemselves : ∃ f, classify setFrame = .good f := ⟨setFrameFields, test_frame_set⟩

theorem witness_DamagedFramesAreOnlyCounted :
    (List.replicate 11 0#8).length < 12 ∧ 60 < (List.replicate 61 0#8).length ∧
    (10 ≤ (List.replicate 10 0#8).length ∧ (List.replicate 58 0#8).length ≤ 58 ∧ 0#16 ≠ crc16 (List.replicate 10 0#8)) ∧
    ([] : List Byte).length ≤ 48 ∧ (7#8).toNat ≠ ([] : List Byte).length ∧
    (running.setLanes ⟨⟨.disabled, 0⟩, ⟨.up, 0⟩⟩).lanes.a.state = .disabled ∧
    (running.lanes.get .A).state ≠ .disabled ∧ running.pins.faultLines.get .A = false ∧ inFlightOn .A running.tx.records = none ∧
    classify (List.replicate 11 0#8) = .runt ∧ classify (List.replicate 61 0#8) = .overlong ∧ classify damagedFrame = .crcError := by
  decide +kernel

/-- A frame whose header is wrong though its CRC is right. -/
theorem witness_DamagedFrames_malformed :
    classify ((setFrame.take 16).set 0 0x78#8 ++ split16 (crc16 ((setFrame.take 16).set 0 0x78#8))) = .malformed := by decide +kernel

theorem foreign_set (L : Lane) : ForeignFrame L setFrame setFrameFields running :=
  ⟨by cases L <;> decide +kernel, test_frame_set, by cases L <;> decide +kernel⟩

/-- A GOOD frame of station 17 that the running sample accepts. -/
theorem accepted_of {L : Lane} {bytes : List Byte} {f : Frame} (h : laneReceives L running = true) (hg : classify bytes = .good f)
    (ho : isOwn L bytes running = false) (hs : running.node.station ≠ some f.origin)
    (hj : (filterJudges L f running).1.accepts = true) : AcceptedFrom L bytes f running :=
  ⟨⟨h, hg, ho⟩, hs, hj⟩

theorem witness_GoodFramesReachMonitorAndFilter :
    ForeignFrame .A setFrame setFrameFields running ∧ running.node.station ≠ some setFrameFields.origin ∧
    running.presence.peers[setFrameFields.origin].state ≠ .self ∧ (filterJudges .A setFrameFields running).1.accepts = true ∧
    (filterJudges .A setFrameFields (after (.frameReceived .B setFrame) running)).1.accepts = false :=
  ⟨foreign_set .A, by decide +kernel, by decide +kernel, by decide +kernel, by decide +kernel⟩

theorem witness_AcceptedSetIsMergedAndWakes :
    ForeignFrame .B setFrame setFrameFields running ∧ running.node.station ≠ some setFrameFields.origin ∧
    setFrameFields.payload = .set 3 ⟨200, 120, 160⟩ 128 5 true ∧ (filterJudges .B setFrameFields running).1.accepts = true :=
  ⟨foreign_set .B, by decide +kernel, rfl, by decide +kernel⟩

theorem witness_AcceptedOccupyWakes : AcceptedFrom .A occupyFrame occupyFrameFields running ∧ occupyFrameFields.payload = .occupy (oneOf 3) :=
  ⟨accepted_of (by decide +kernel) test_frame_occupy (by decide +kernel) (by decide +kernel) (by decide +kernel), rfl⟩

theorem witness_AcceptedRecallNeedsTheChecksum :
    recallFrameFields.payload = .recall 2 0x1234 true ∧ running.zoneStore.checksum = some 0x1234 ∧
    running.zoneStore.checksum ≠ some 0x71E0 ∧ State.reset.zoneStore.checksum ≠ some 0x1234 ∧ (lookZones running.zoneStore 2).Nodup := by
  decide +kernel

theorem witness_AcceptedRecall_frame : AcceptedFrom .A recallFrame recallFrameFields running :=
  accepted_of (by decide +kernel) (by decide +kernel) (by decide +kernel) (by decide +kernel) (by decide +kernel)

/-- The sample with its own SET in flight on Lane A. -/
def sending : State := queued [setRecord .inFlight .pending 15]

theorem sending_sound : QueueSound sending := by
  apply queueSound_of <;> decide +kernel

theorem witness_OwnFrameCompletesItsCopy :
    laneReceives .A sending = true ∧ (∃ f, classify ownFrame = .good f) ∧ isOwn .A ownFrame sending = true ∧
    inFlightOn .A sending.tx.records = some (setRecord .inFlight .pending 15) ∧ QueueSound sending := by
  refine ⟨by decide +kernel, ⟨copyFrame 4 .A (setRecord .inFlight .pending 15), by decide +kernel⟩, by decide +kernel, by decide +kernel,
    sending_sound⟩

/-- The sample in CATCH_UP with its SYNC_ASK in flight on Lane A. -/
def asking : State :=
  (inPhase .catchUp .asking).setTx { running.tx with records := [{ askRecord with copies := ⟨.inFlight, .pending⟩ }] }

/-- An ask whose other copy is SENT already, and one still in the queue when the asker has FINISHED. -/
theorem witness_OwnFrame_second_copy_of_an_ask :
    ∃ s t : State, QueueSound s ∧ QueueSound t ∧ inFlightOn .A s.tx.records = some { askRecord with copies := ⟨.inFlight, .sent⟩ } ∧
      isOwn .A (copyBytes 4 .A askRecord) s = true ∧ isOwn .A (copyBytes 4 .A askRecord) t = true ∧ t.catchUp.asker = .finished := by
  refine ⟨(inPhase .catchUp .window).setTx { running.tx with records := [{ askRecord with copies := ⟨.inFlight, .sent⟩ }] },
    running.setTx { running.tx with records := [{ askRecord with copies := ⟨.inFlight, .pending⟩ }] }, ?_, ?_, by decide +kernel,
    by decide +kernel, by decide +kernel, by decide⟩ <;> apply queueSound_of <;> decide +kernel

theorem witness_OwnFrameCompletesItsCopy_ask :
    laneReceives .A asking = true ∧ (∃ f, classify (copyBytes 4 .A askRecord) = .good f) ∧ isOwn .A (copyBytes 4 .A askRecord) asking = true ∧
    asking.catchUp.asker = .asking ∧ QueueSound asking := by
  refine ⟨by decide +kernel, ⟨copyFrame 4 .A askRecord, by decide +kernel⟩, by decide +kernel, by decide +kernel, ?_⟩
  apply queueSound_of <;> decide +kernel

theorem witness_StationConflictMutes :
    laneReceives .A running = true ∧ (∃ f, classify conflictFrame = .good f ∧ running.node.station = some f.origin) ∧
    running.presence.peers[(4 : Station)].state = .self ∧
    (judge .A { origin := 4, laneTag := .A, startTag := 9, sequence := 5, stamp := 70, payload := .presence 0x5A3C .running false true }
      0 ⟨true, true⟩ running.filter.entries[(4 : Station)]).1.accepts = true ∧
    isOwn .A conflictFrame running = false ∧ running.node.phase = .running ∧ (inPhase .mute .finished).node.station = running.node.station ∧
    (inPhase .commission .idle).node.station = running.node.station := by
  refine ⟨by decide +kernel, ⟨⟨4, .A, 9, 5, 70, .presence 0x5A3C .running false true⟩, by decide +kernel⟩, by decide +kernel, by decide +kernel, by decide +kernel, by decide,
    by decide, by decide⟩

/-- An ACTIVE entry: start tag 40, highest 519, the mark at position 1 set. -/
def activeEntry : OriginEntry :=
  { OriginEntry.reset with active := true, startTag := 40, highest := 519, window := 1, lanesSeen := oneLane .A }

/-- The sample as station 17, which another station bears too, with its own window entry. -/
def atStation17 (p : Phase) (e : OriginEntry) : State :=
  (running.setNode { running.node with phase := p, station := some 17 }).setFilter
    { running.filter with entries := update running.filter.entries 17 e }

/-- A conflicting SET and RECALL, accepted in RUNNING, MUTE and COMMISSION, and one that is a duplicate, a stale frame, a restart. -/
theorem witness_StationConflict_handled :
    laneReceives .A (atStation17 .running OriginEntry.reset) = true ∧ classify setFrame = .good setFrameFields ∧
    classify recallFrame = .good recallFrameFields ∧ isOwn .A setFrame (atStation17 .running OriginEntry.reset) = false ∧
    (atStation17 .running OriginEntry.reset).node.station = some setFrameFields.origin ∧
    (filterJudges .A setFrameFields (atStation17 .mute OriginEntry.reset)).1 = .accepted ∧
    (filterJudges .A recallFrameFields (atStation17 .commission activeEntry)).1 = .accepted ∧
    (filterJudges .A setFrameFields (atStation17 .running activeEntry)).1 = .duplicate ∧
    (filterJudges .A setFrameFields (atStation17 .running { activeEntry with startTag := 41 })).1 = .stale ∧
    (filterJudges .A setFrameFields (atStation17 .running { activeEntry with startTag := 39 })).1 = .restarted ∧
    (after (.frameReceived .A setFrame) (atStation17 .running OriginEntry.reset)).zoneStore.table[(3 : Zone)] ≠ running.zoneStore.table[(3 : Zone)] :=
  ⟨by decide +kernel, test_frame_set, test_frame_recall, by decide +kernel, by decide +kernel, by decide +kernel, by decide +kernel,
   by decide +kernel, by decide +kernel, by decide +kernel, by decide +kernel⟩

theorem witness_FilterJudgesByTagAndSequence :
    OriginEntry.reset.active = false ∧ activeEntry.active = true ∧
    (41#8 - activeEntry.startTag).toNat = 1 ∧ (167#8 - activeEntry.startTag).toNat = 127 ∧ (168#8 - activeEntry.startTag).toNat = 128 ∧
    (setFrameFields.startTag - activeEntry.startTag).toNat = 0 ∧ (setFrameFields.sequence - activeEntry.highest).toNat = 0 ∧
    activeEntry.lanesSeen.get .A = true ∧ activeEntry.lanesSeen.get .B = false ∧
    (520#16 - activeEntry.highest).toNat = 1 ∧ (33286#16 - activeEntry.highest).toNat = 32767 ∧
    (activeEntry.highest - 518#16).toNat = 1 ∧ activeEntry.window.getLsbD 0 = true ∧
    (activeEntry.highest - 488#16).toNat = 31 ∧ activeEntry.window.getLsbD 30 = false ∧
    (activeEntry.highest - 487#16).toNat = 32 ∧ (activeEntry.highest - 33287#16).toNat = 32768 := by decide

theorem witness_RepeatsAreNotAccepted :
    (judge .A setFrameFields 0 ⟨true, true⟩ OriginEntry.reset).1.accepts = true ∧
    (setFrameFields.sequence - 0#16).toNat ≤ 32767 ∧ ((judge .A setFrameFields 0 ⟨true, true⟩ OriginEntry.reset).2.highest - 0#16).toNat ≤ 32767 ∧
    ∀ x ∈ [(Lane.B, { setFrameFields with sequence := 600 }, (1 : Word32), (⟨true, true⟩ : PerLane Bool))],
      x.2.1.startTag = setFrameFields.startTag ∧ (x.2.1.sequence - 0#16).toNat ≤ 32767 := by decide +kernel

/-- An isolated node: both lanes DOWN. -/
def isolatedNode : State := running.setLanes ⟨⟨.down, 0⟩, ⟨.down, 0⟩⟩

theorem witness_OfferedRecordsEnterOrDrop :
    ¬ anyPending (.occupy 1) isolatedNode ∧ anyPending (.occupy 1) running ∧
    (queued (List.replicate 15 askRecord)).tx.records.length < 16 ∧
    anyPending (.occupy 1) (queued (List.replicate 16 askRecord)) ∧ 16 ≤ (queued (List.replicate 16 askRecord)).tx.records.length ∧
    (Payload.occupy 1).urgent = true ∧ (Payload.syncAsk 1).urgent = false ∧
    (queued (List.replicate 16 askRecord)).tx.records = List.replicate 15 askRecord ++ askRecord :: [] ∧
    askRecord.payload.urgent = false ∧ askRecord.flying = false ∧
    ∀ r ∈ (queued (List.replicate 16 (setRecord .pending .pending 0))).tx.records, r.payload.urgent = true ∨ r.flying = true := by
  unfold anyPending
  decide +kernel

theorem witness_CopyStartTakesTheOldestOfItsClass :
    (running.lanes.get .A).state = .up ∧ inFlightOn .A (queued [presenceRecord, setRecord .pending .sent 0]).tx.records = none ∧
    (queued [presenceRecord, setRecord .pending .sent 0]).tx.records = [presenceRecord] ++ setRecord .pending .sent 0 :: [] ∧
    (setRecord .pending .sent 0).copies.get .A = .pending ∧ (setRecord .pending .sent 0).payload.urgent = true ∧
    (∀ q ∈ [presenceRecord], q.payload.urgent = true → q.copies.get .A ≠ .pending) ∧
    (isolatedNode.lanes.get .A).state = .down ∧ isolatedNode.pins.faultLines.get .A = false ∧ presenceRecord.payload.urgent = false := by
  decide +kernel

theorem witness_FailedAttemptReturnsTheCopy :
    (queued [setRecord .inFlight .sent 14]).tx.records = [] ++ setRecord .inFlight .sent 14 :: [] ∧
    (setRecord .inFlight .sent 14).copies.get .A = .inFlight ∧ (setRecord .inFlight .sent 14).attempts.get .A < 15 := by decide

theorem witness_BadEcho :
    laneReceives .A (queued [setRecord .inFlight .sent 14]) = true ∧ laneReceives .A sending = true ∧ badClass damagedFrame .rxCrcError ∧
    badClass [] .rxRunt := by
  unfold badClass
  decide +kernel

theorem witness_SixteenthFailureAbandons :
    QueueSound sending ∧ sending.tx.records = [] ++ setRecord .inFlight .pending 15 :: [] ∧
    (setRecord .inFlight .pending 15).copies.get .A = .inFlight ∧ (setRecord .inFlight .pending 15).attempts.get .A = 15 ∧
    (sending.lanes.get .A).state = .up ∧ (sending.lanes.get .A).abandons = 0 ∧
    QueueSound (sending.setLanes ⟨⟨.up, 1⟩, ⟨.up, 0⟩⟩) := by
  refine ⟨sending_sound, by decide, by decide, by decide, by decide, by decide, ?_⟩
  apply queueSound_of <;> decide +kernel

/-- The sample with Lane A DOWN and its probe in flight there, fifteen attempts failed. -/
def probing : State :=
  (queued [{ presenceRecord with copies := ⟨.inFlight, .notUsed⟩, attempts := ⟨15, 0⟩ }]).setLanes ⟨⟨.down, 0⟩, ⟨.disabled, 0⟩⟩

theorem probing_sound : QueueSound probing := by
  apply queueSound_of <;> decide +kernel

theorem witness_DownLaneProbe :
    QueueSound probing ∧ (probing.lanes.get .A).state = .down ∧ probing.pins.faultLines.get .A = false ∧
    (probing.tx.records.map (fun r => (r.copies.get .A, r.attempts.get .A))) = [(.inFlight, 15)] ∧ (probing.lanes.get .B).state = .disabled ∧
    probing.pins.faultLines.get .B = false := by
  exact ⟨probing_sound, by decide, by decide, by decide, by decide, by decide⟩

theorem witness_FaultLineTakesTheLaneDown :
    QueueSound sending ∧ sending.pins.faultLines.get .A = false ∧ (sending.lanes.get .A).state = .up :=
  ⟨sending_sound, by decide, by decide⟩

/-- A peer record in a state, with its count. -/
def peerIn (p : PeerState) (n : Nat) : PeerRecord := { PeerRecord.reset with state := p, sinceHeard := n }

theorem witness_PresenceExpiryAgesAndAnnounces :
    running.presence.timer ≠ .stopped ∧ running.node.phase.announced = some .running ∧ running.node.phase ≠ .listen ∧
    (inPhase .listen .idle).presence.timer ≠ .stopped ∧ (inPhase .listen .idle).node.phase.announced = some .listen ∧
    (inPhase .listen .idle).node.listenExpiries = 0 ∧ (inPhase .commission .idle).presence.timer ≠ .stopped ∧
    (peerIn .present 1).sinceHeard ≤ 1 ∧ (peerIn .present 2).sinceHeard = 2 ∧ 3 ≤ (peerIn .silent 3).sinceHeard ∧
    (peerIn .silent 6).sinceHeard ≤ 6 ∧ (peerIn .silent 7).sinceHeard = 7 ∧ (peerIn .lost 8).state = .lost ∧ (peerIn .absent 8).state = .absent := by
  decide

/-- LISTEN after its first presence expiry. -/
def listening : State := (inPhase .listen .idle).setNode { running.node with phase := .listen, listenExpiries := 1 }

theorem witness_PresenceExpiry_ends_listen :
    listening.presence.timer ≠ .stopped ∧ listening.node.phase = .listen ∧ listening.node.listenExpiries = 1 ∧
    listening.lanes.a.state = .up ∧ listening.tx.records = [] ∧
    (after .presenceExpiry listening).tx.records.map (fun r => r.payload.kind) = [1, 5] := by decide +kernel

/-- With both lanes DOWN, or with fifteen records waiting and PRESENCE joining them, neither ask is entered. -/
theorem witness_PresenceExpiry_asks_in_vain :
    (after .presenceExpiry (listening.setLanes ⟨⟨.down, 0⟩, ⟨.down, 0⟩⟩)).node.phase = .running ∧
    (after .presenceExpiry (listening.setTx { listening.tx with
      records := List.replicate 15 (setRecord .pending .pending 0) })).catchUp.incomplete = true := by decide +kernel

theorem witness_AcceptedPresenceIsStored :
    presenceFrameFields.payload = .presence 0x5A3C .running false true ∧ AcceptedFrom .B presenceFrame presenceFrameFields running :=
  ⟨rfl, accepted_of (by decide +kernel) test_frame_presence (by decide +kernel) (by decide +kernel) (by decide +kernel)⟩

/-- The sample in CATCH_UP with its window running. -/
def inWindow : State := (inPhase .catchUp .window).setCatchUp { running.catchUp with asker := .window, window := .running 0 }

theorem witness_WindowExpiryEntersRunning : inWindow.catchUp.window ≠ .stopped ∧ inWindow.catchUp.held = [] := by decide

/-- CATCH_UP with the asker ASKING, its retry made or not, on the given lanes. -/
def askingWith (retry : Bool) (lanes : PerLane LaneInterface) : State :=
  ((inPhase .catchUp .asking).setCatchUp { running.catchUp with asker := .asking, retry := retry }).setLanes lanes

theorem witness_FailedAskIsRetriedOnce :
    (askingWith true running.lanes).catchUp.retry = true ∧ (askingWith false running.lanes).catchUp.asker = .asking ∧
    (askingWith false running.lanes).catchUp.retry = false ∧ (offerAsk (askingWith false running.lanes)).outcome = .entered ∧
    (offerAsk (askingWith false ⟨⟨.down, 0⟩, ⟨.down, 0⟩⟩)).outcome ≠ .entered ∧ running.catchUp.asker ≠ .asking := by decide +kernel

/-- CATCH_UP with the only live copy of the SYNC_ASK in flight, fifteen attempts failed. -/
def failingAsk : State :=
  (inPhase .catchUp .asking).setTx { running.tx with records := [{ askRecord with copies := ⟨.inFlight, .abandoned⟩, attempts := ⟨15, 16⟩ }] }

theorem witness_FailingAsk :
    QueueSound failingAsk ∧ failingAsk.tx.records.map (fun r => (r.payload.isAsk, r.copies, r.attempts.a)) = [(true, ⟨.inFlight, .abandoned⟩, 15)] ∧
    (failingAsk.lanes.get .A).state = .up ∧ (failingAsk.lanes.get .A).abandons = 0 := by
  refine ⟨?_, by decide, by decide, by decide⟩
  apply queueSound_of <;> decide +kernel

/-- CATCH_UP on Lane A alone, its SYNC_ASK waiting there behind a copy in flight that fails its sixteenth attempt. -/
def waitingAsk : State :=
  ((inPhase .catchUp .asking).setTx { running.tx with records :=
    [setRecord .inFlight .notUsed 15, { askRecord with copies := ⟨.pending, .notUsed⟩ }] }).setLanes ⟨⟨.up, 1⟩, ⟨.disabled, 0⟩⟩

/-- An ask that fails by its own sixteenth attempt, by its lane's second abandon and by the fault line. -/
theorem witness_AskDiesWithItsLane :
    QueueSound failingAsk ∧ QueueSound waitingAsk ∧ failingAsk.tx.records.countP (askDiesOn .A) = 1 ∧
    waitingAsk.tx.records.countP (askDiesOn .A) = 1 ∧ (waitingAsk.lanes.get .A).abandons = 1 ∧
    waitingAsk.pins.faultLines.get .A = false ∧
    (after (.contestLost .A) failingAsk).catchUp.retry = true ∧ (after (.contestLost .A) waitingAsk).node.phase = .running ∧
    (after (.laneFaultAssert .A) waitingAsk).catchUp.incomplete = true := by
  refine ⟨witness_FailingAsk.1, ?_, by decide +kernel, by decide +kernel, by decide, by decide, by decide +kernel, by decide +kernel,
    by decide +kernel⟩
  apply queueSound_of <;> decide +kernel

theorem witness_ResponderCollectsAndStrikes :
    running.node.phase = .running ∧ (inPhase .mute .finished).node.phase ≠ .running ∧ running.catchUp.backoff = .stopped ∧
    (acceptFrame { setFrameFields with payload := .syncAsk allZones } running).catchUp.answers = oneOf 3 ∧
    (acceptFrame { setFrameFields with payload := .syncAsk (oneOf 5) } running).catchUp.answers = 0 ∧
    (acceptFrame { setFrameFields with payload := .syncEntry [sampleEntry] }
      (running.setCatchUp { running.catchUp with answers := oneOf 3, backoff := .running 9 })).catchUp.backoff = .stopped := by decide +kernel

theorem witness_Responder_frames :
    AcceptedFrom .A askFrame askFrameFields running ∧ AcceptedFrom .A entryFrame entryFrameFields running ∧
    askFrameFields.payload = .syncAsk allZones ∧ entryFrameFields.payload.kind = 6 :=
  ⟨accepted_of (by decide +kernel) test_frame_syncAsk (by decide +kernel) (by decide +kernel) (by decide +kernel),
   accepted_of (by decide +kernel) test_frame_syncEntry (by decide +kernel) (by decide +kernel) (by decide +kernel), rfl, rfl⟩

/-- The sample as a responder whose back-off runs. -/
def responding : State := running.setCatchUp { running.catchUp with answers := allZones, backoff := .running 0 }

theorem witness_BackoffExpiryAnswers :
    responding.catchUp.backoff ≠ .stopped ∧ (responding.lanes.a).state = .up ∧
    responding.tx.records.length + (groupsOfFour (answerEntries responding.zoneStore responding.catchUp.answers)).length ≤ 16 ∧
    (groupsOfFour (List.range 5)).length = 2 := by decide +kernel

/-- Five entries to answer for, with the given records in the queue and the given lanes. -/
def respondingFive (l : List TxRecord) (lanes : PerLane LaneInterface) : State :=
  ((responding.setTx { running.tx with records := l }).setLanes lanes).setZoneStore { running.zoneStore with
    table := tabulate 32 fun z => if z.val < 5 then some held61 else none }

/-- Room for one of two records, room for none, and no lane UP. -/
theorem witness_BackoffExpiry_boundaries :
    (groupsOfFour (answerEntries (respondingFive [] running.lanes).zoneStore allZones)).map List.length = [4, 1] ∧
    (respondingFive (List.replicate 15 askRecord) running.lanes).tx.records.length = 15 ∧
    (respondingFive (List.replicate 16 askRecord) running.lanes).tx.records.length = 16 ∧
    (respondingFive [] ⟨⟨.down, 0⟩, ⟨.disabled, 0⟩⟩).lanes.a.state ≠ .up ∧ (respondingFive [] ⟨⟨.down, 0⟩, ⟨.disabled, 0⟩⟩).lanes.b.state ≠ .up := by
  decide +kernel

theorem witness_HeldListMergesAndReleases :
    (∃ before after : List HeldRequest, [HeldRequest.recall 2 true .port, .occupy 1 .port] = before ++ .occupy 1 .port :: after ∧
      before.countP HeldRequest.isOccupy = 0) ∧
    (holding 7).catchUp.held.countP HeldRequest.isOccupy = 0 ∧ (holding 7).catchUp.held.length < 8 ∧ 8 ≤ (holding 8).catchUp.held.length ∧
    (holding 0).catchUp.held = [] ∧ (holding 1).catchUp.held = .recall 2 false .port :: [] :=
  ⟨⟨[.recall 2 true .port], [], rfl, by decide⟩, by decide⟩

theorem witness_WakesFollowTheTable :
    running.occupancy.config[(3 : Zone)].percent ≤ 100 ∧ running.occupancy.records[(3 : Zone)].state = .occupied ∧
    running.occupancy.records[(5 : Zone)].state = .follow ∧
    (occupied (zoneRecord .vacant (.running 5))).occupancy.records[(3 : Zone)].state = .vacant ∧
    running.occupancy.config[(3 : Zone)].percent < 100 ∧
    (occupied (zoneRecord .dark .stopped)).occupancy.records[(3 : Zone)].state = .dark ∧
    running.node.phase.headsFollow = true ∧ lights running.heads 3 0 := by
  unfold lights
  decide +kernel

theorem witness_OvertakenExpiry :
    running.occupancy.records[(3 : Zone)].timer = .running 0 ∧ (wake .port 3 running).occupancy.records[(3 : Zone)].overtaken = true ∧
    (wake .port 3 running).occupancy.records[(3 : Zone)].timer ≠ .stopped ∧
    (occupied (zoneRecord .occupied (.running 7))).occupancy.records[(3 : Zone)].timer ≠ .running 0 := by decide +kernel

theorem witness_OccupancyExpiriesDimAndDarken :
    running.occupancy.config[(3 : Zone)].percent ≤ 100 ∧ running.occupancy.records[(3 : Zone)].timer ≠ .stopped ∧
    running.occupancy.records[(3 : Zone)].state = .occupied ∧ running.occupancy.config[(3 : Zone)].percent < 100 ∧
    0 < running.occupancy.config[(3 : Zone)].percent ∧
    (occupied (zoneRecord .vacant (.running 0))).occupancy.records[(3 : Zone)].timer ≠ .stopped ∧
    (occupied (zoneRecord .vacant (.running 0))).occupancy.records[(3 : Zone)].state = .vacant ∧ lights running.heads 3 0 := by
  unfold lights
  decide +kernel

/-- The sample with other occupancy figures for its zone, and a record in the given state. -/
def dimmed (percent : Nat) (vacant : Fin 16) (state : OccupancyState) : State :=
  running.setOccupancy {
    config := update running.occupancy.config 3 { enable := true, grace := 5, vacant := vacant, percent := percent, fade := 4 }
    records := update running.occupancy.records 3 (zoneRecord state (.running 7)) }

theorem witness_Occupancy_boundaries :
    (dimmed 100 0 .vacant).occupancy.config[(3 : Zone)].percent = 100 ∧ (dimmed 0 2 .vacant).occupancy.config[(3 : Zone)].percent = 0 ∧
    (dimmed 100 0 .occupied).occupancy.records[(3 : Zone)].state = .occupied ∧ (dimmed 100 0 .occupied).occupancy.config[(3 : Zone)].vacant = 0 ∧
    (dimmed 100 2 .vacant).occupancy.records[(3 : Zone)].timer ≠ .stopped ∧ (dimmed 0 2 .vacant).occupancy.records[(3 : Zone)].state = .vacant := by
  decide +kernel

theorem witness_PublishOccupyWakesThenAnnounces :
    running.port = .opened ∧ oneOf 3 ≠ 0 ∧ running.node.phase = .running ∧ running.catchUp.asker = .finished ∧
    (holding 7).port = .opened ∧ (holding 7).node.phase = .catchUp ∧ (holding 7).catchUp.held.length < 8 ∧
    (holding 7).catchUp.held.countP HeldRequest.isOccupy = 0 ∧ (inPhase .mute .finished).port = .opened ∧
    (inPhase .commission .idle).port = .opened ∧ loadingOpen.port = .opened ∧ loadingOpen.node.phase = .loading := by decide +kernel

theorem witness_LevelChangesAreDebounced :
    running.pins.inputLines[(0 : Line)] ≠ true ∧ running.inputs.config[(0 : Line)].kind ≠ .unused ∧
    running.inputs.config[(7 : Line)].kind = .unused ∧ running.node.phase ≠ .loading ∧ running.node.phase ≠ .commission ∧
    (if running.inputs.config[(0 : Line)].activeLow then !true else true) ≠ running.inputs.records[(0 : Line)].active ∧
    (if running.inputs.config[(2 : Line)].activeLow then !true else true) = running.inputs.records[(2 : Line)].active := by decide +kernel

theorem witness_DebounceExpirySettlesTheLevel :
    (∀ i : Line, (lineRecord i { InputRecord.reset with debounce := .running 0 }).inputs.records[i].debounce ≠ .stopped) ∧
    (lineHigh 0 running).pins.inputLines[(0 : Line)] = true ∧ running.inputs.config[(0 : Line)].kind = .sensor 3 ∧
    running.inputs.config[(1 : Line)].kind = .recall 2 ∧ running.inputs.config[(2 : Line)].kind = .action .raise 3 16 ∧
    running.inputs.config[(3 : Line)].kind = .action .off 3 0 ∧
    (lineRecord 0 { InputRecord.reset with active := true, debounce := .running 0 }).inputs.records[(0 : Line)].active = true := by
  decide +kernel

theorem witness_RepeatsAndRefreshesAskAgain :
    running.inputs.config[(2 : Line)].kind = .action .raise 3 16 ∧
    (lineRecord 2 { InputRecord.reset with active := true, repeating := .running 0 }).inputs.records[(2 : Line)].repeating ≠ .stopped ∧
    running.inputs.config[(0 : Line)].kind = .sensor 3 ∧
    (lineRecord 0 { InputRecord.reset with active := true, refresh := .running 0 }).inputs.records[(0 : Line)].refresh ≠ .stopped := by
  decide +kernel

/-- What an input asks for, phase by phase. -/
theorem witness_Requests_by_phase :
    (inPhase .listen .idle).node.phase = .listen ∧ (holding 8).node.phase = .catchUp ∧ (inPhase .mute .finished).node.phase = .mute ∧
    running.node.phase = .running ∧ running.catchUp.asker = .finished ∧ (clockAt maxWord).node.phase = .running ∧
    (clockAt maxWord).catchUp.asker = .finished ∧ lookSettings (clockAt maxWord).zoneStore 2 ≠ [] ∧ lookSettings running.zoneStore 3 = [] ∧
    (lookZones running.zoneStore 2).Nodup ∧ ClockSound running :=
  ⟨rfl, rfl, rfl, rfl, rfl, rfl, rfl, by decide +kernel, by decide +kernel, by decide +kernel, running_clockSound⟩

theorem witness_TicksStepChannelsAndPeriodsShowThem :
    running.heads.fadeTick ≠ .stopped ∧ running.heads.period ≠ .stopped ∧ running.heads.channels[(0 : Channel)].remaining = 0 ∧
    HeadUnit.reset.period = .stopped := by
  decide +kernel

/-- Outputs at 0, at 4095 and between, with the period running. -/
theorem witness_Outputs :
    let h : HeadUnit := { running.heads with outputs := update (update running.heads.outputs 0 4095) 1 4094 }
    h.period = .running 0 ∧ h.outputs[(0 : Channel)] = 4095 ∧ h.outputs[(1 : Channel)] < 4095 ∧ h.outputs[(2 : Channel)] = 0 := by
  decide +kernel

theorem witness_FadesLandOnTheirTargets :
    1 ≤ (⟨100, 50, 1, 100⟩ : ChannelRecord).remaining ∧ 1 ≤ (⟨0, 4095, 12000, 0⟩ : ChannelRecord).remaining ∧
    fadeStep ⟨100, 50, 1, 100⟩ = ⟨50, 50, 0, 50⟩ := by decide

theorem witness_SupplyResetsTheNode :
    StoreWf running ∧ running.pins.resetLine = false ∧
    (running.setPins { running.pins with supply := false, resetLine := true }).pins.resetLine = true ∧
    (after .resetLineRelease (after .powerOn (running.setPins { running.pins with supply := false, resetLine := true }))).node.cause.kind =
      .resetLine ∧
    StoreWf (checked (.invalid .node) (.writing 0 1 3)) := by
  refine ⟨running_storeWf, by decide, by decide, by decide +kernel, ?_⟩
  unfold StoreWf
  decide +kernel

theorem witness_ResetLineHoldsThenLoads :
    running.pins.supply = true ∧ running.pins.resetLine = false ∧ StoreWf running ∧
    (after .resetLineAssert running).pins.supply = true ∧ (after .resetLineAssert running).pins.resetLine = true :=
  ⟨by decide, by decide, running_storeWf, by decide +kernel, by decide +kernel⟩

theorem witness_RestartIsTakenAtTheEnd :
    Serving running ∧ running.store.write = .idle ∧
    (running.setStore { running.store with write := .writing 0 9 0 }).store.write ≠ .idle ∧
    (after .restart running).port = .answered [0] true := by
  unfold Serving
  decide +kernel

theorem witness_LoadingAdvancesTheStartCounter : State.reset.node.phase = .loading ∧ State.reset.node.loading = .reading := by decide

/-- The array that holds `f a` at each of the addresses. -/
def arrayOf (f : Nat → Byte) (addresses : List Nat) : Memory :=
  addresses.foldr (fun a m => if f a = Config.unwrittenByte then m else (a, f a) :: m) []

theorem read_arrayOf (f : Nat → Byte) (l : List Nat) (a : Nat) :
    Memory.read (arrayOf f l) a = if a ∈ l then f a else Config.unwrittenByte := by
  induction l with
  | nil => rfl
  | cons k rest ih =>
    by_cases hu : f k = Config.unwrittenByte <;> by_cases hk : k = a <;> simp_all [arrayOf, Memory.read, eq_comm (a := a) (b := k)]

/-- The bytes of a store of zeros but for the lane use field and two CRCs. -/
def sampleByte (use : Byte) (node library : Word16) (a : Nat) : Byte :=
  if a = 0x003 then use else if a = 0x03E then node.extractLsb' 8 8 else if a = 0x03F then node.extractLsb' 0 8
  else if a = 0x741 then library.extractLsb' 8 8 else if a = 0x742 then library.extractLsb' 0 8 else 0

/-- `n` bytes of it from address `a` on. -/
def sampleBytes (use : Byte) (node library : Word16) (a n : Nat) : List Byte :=
  (List.range n).map fun i => sampleByte use node library (a + i)

/-- That store, its two CRCs off by the given amounts. -/
def sampleStore (use : Byte) (nodeOff libraryOff : Word16) : Memory :=
  arrayOf (sampleByte use (crc16 (sampleBytes use 0 0 0x002 60) + nodeOff) (crc16 (sampleBytes use 0 0 0x040 1793) + libraryOff)) (List.range 2048)

theorem read_sampleStore (use : Byte) (x y : Word16) (a : Nat) (h : a < 2048) :
    Memory.read (sampleStore use x y) a =
      sampleByte use (crc16 (sampleBytes use 0 0 0x002 60) + x) (crc16 (sampleBytes use 0 0 0x040 1793) + y) a := by
  rw [sampleStore, read_arrayOf, if_pos (List.mem_range.mpr h)]

/-- The bytes that a CRC covers hold no CRC. -/
theorem covered (use : Byte) (x y : Word16) (a n : Nat) (h : a + n ≤ 2048) (hc : a + n ≤ 0x03E ∨ (0x03F < a ∧ a + n ≤ 0x741)) :
    (List.range n).map (fun i => Memory.read (sampleStore use x y) (a + i)) = sampleBytes use 0 0 a n := by
  refine List.map_congr_left fun i hi => ?_
  have := List.mem_range.mp hi
  rw [read_sampleStore _ _ _ _ (by omega)]
  simp only [sampleByte]
  rw [if_neg (show ¬ a + i = 0x03E by omega), if_neg (show ¬ a + i = 0x03F by omega), if_neg (show ¬ a + i = 0x741 by omega),
    if_neg (show ¬ a + i = 0x742 by omega), if_neg (show ¬ a + i = 0x03E by omega), if_neg (show ¬ a + i = 0x03F by omega),
    if_neg (show ¬ a + i = 0x741 by omega), if_neg (show ¬ a + i = 0x742 by omega)]

theorem stored_crcs (use : Byte) (x y : Word16) :
    Memory.read (sampleStore use x y) 0x03E ++ Memory.read (sampleStore use x y) 0x03F = crc16 (sampleBytes use 0 0 0x002 60) + x ∧
    Memory.read (sampleStore use x y) 0x741 ++ Memory.read (sampleStore use x y) 0x742 = crc16 (sampleBytes use 0 0 0x040 1793) + y := by
  rw [read_sampleStore _ _ _ _ (by decide), read_sampleStore _ _ _ _ (by decide), read_sampleStore _ _ _ _ (by decide),
    read_sampleStore _ _ _ _ (by decide)]
  exact ⟨join16_split16 _, join16_split16 _⟩

/-- The NODE_CRC and the LIBRARY_CRC are right where nothing is added to them, and wrong where 1 is. -/
theorem witness_crcs (use : Byte) (x y : Word16) :
    let m := sampleStore use x y
    (Memory.read m 0x03E ++ Memory.read m 0x03F = crc16 ((List.range 60).map fun i => Memory.read m (0x002 + i)) ↔ x = 0) ∧
    (Memory.read m 0x741 ++ Memory.read m 0x742 = crc16 ((List.range 1793).map fun i => Memory.read m (0x040 + i)) ↔ y = 0) := by
  simp only [covered use x y 0x002 60 (by decide) (by decide), covered use x y 0x040 1793 (by decide) (by decide), stored_crcs]
  simp

/-- The fields are in range with one lane used, and not with none. -/
theorem witness_FieldsInRange : FieldsInRange (sampleStore 1 0 0) ∧ ¬ FieldsInRange (sampleStore 0 0 0) := by
  have zero : ∀ a, a < 2048 → a ≠ 0x003 → (a < 0x03E ∨ 0x03F < a) → (a < 0x741 ∨ 0x742 < a) → numberAt (sampleStore 1 0 0) a = 0 := by
    intro a h h1 h2 h3
    rw [numberAt, read_sampleStore _ _ _ _ h]
    simp only [sampleByte]
    rw [if_neg h1, if_neg (by omega), if_neg (by omega), if_neg (by omega), if_neg (by omega)]
    rfl
  have use : ∀ u, numberAt (sampleStore u 0 0) 0x003 = u.toNat := by
    intro u
    rw [numberAt, read_sampleStore _ _ _ _ (by decide)]
    rfl
  refine ⟨⟨?_, ?_, ?_, ?_, fun h => ?_, fun i => .inl ?_, ?_, fun z => ?_, fun k => ?_, fun p => ?_, fun k => ?_⟩, fun h => ?_⟩
  · rw [zero _ (by decide) (by decide) (by decide) (by decide)]; decide
  · rw [use]; decide
  · rw [zero _ (by decide) (by decide) (by decide) (by decide)]; decide
  · rw [zero _ (by decide) (by decide) (by decide) (by decide)]; decide
  · rw [zero _ (by omega) (by omega) (by omega) (by omega), zero _ (by omega) (by omega) (by omega) (by omega)]; decide
  · exact zero _ (by omega) (by omega) (by omega) (by omega)
  · rw [zero _ (by decide) (by decide) (by decide) (by decide)]; decide
  · have hz : ∀ j, j < 10 → numberAt (sampleStore 1 0 0) (0x041 + j + 10 * z.val) = 0 := fun j hj =>
      zero _ (by omega) (by omega) (by omega) (by omega)
    exact ⟨by rw [hz 0 (by decide)]; decide, by rw [hz 1 (by decide)]; decide, by rw [hz 2 (by decide)]; decide,
      by rw [hz 3 (by decide)]; decide, by rw [hz 4 (by decide)]; decide, by rw [hz 5 (by decide)]; decide⟩
  · rw [zero _ (by omega) (by omega) (by omega) (by omega), zero _ (by omega) (by omega) (by omega) (by omega)]; decide
  · rw [zero _ (by omega) (by omega) (by omega) (by omega), zero _ (by omega) (by omega) (by omega) (by omega)]; decide
  · rw [zero (0x182 + 2 * k.val) (by omega) (by omega) (by omega) (by omega)]; exact List.nodup_nil
  · have := h.laneUse
    rw [use] at this
    exact absurd this (by decide)

theorem witness_StartCounterWritesEndLoading :
    (checked (.invalid .field) (.writing 0 1 3)).node.loading = .checked (.invalid .field) ∧
    (checked (.invalid .field) (.writing 0 1 3)).store.write = .writing 0 1 3 ∧
    (checked (.invalid .field) (.writing 1 0xA7 0)).store.write = .writing 1 0xA7 0 ∧
    (checked (.valid sampleConfiguration) (.writing 1 0xA7 0)).node.loading = .checked (.valid sampleConfiguration) ∧
    (checked (.valid sampleConfiguration) (.writing 1 0xA7 0)).node.setupSample = false := by decide +kernel

/-- The end of LOADING with the SETUP sample high. -/
def checkedHigh : State :=
  let s := checked (.valid sampleConfiguration) (.writing 1 0xA7 3)
  s.setNode { s.node with setupSample := true }

theorem witness_StartCounterWrites_setup_high :
    checkedHigh.node.loading = .checked (.valid sampleConfiguration) ∧ checkedHigh.store.write = .writing 1 0xA7 3 ∧
    checkedHigh.node.setupSample = true ∧ (after .startCounterWriteDone checkedHigh).node.phase = .commission := by decide +kernel

theorem witness_ListenEntryStartsTheNode :
    running.inputs.config[(0 : Line)].kind = .sensor 3 ∧ running.inputs.config[(7 : Line)].kind = .unused ∧
    (enterListen ⟨true, true⟩ (lineHigh 0 running)).inputs.records[(0 : Line)].refresh = .running 200000 ∧ lights running.heads 3 0 ∧ running.heads.config[headOf 11].zone = none ∧
    (let cfg : Vector HeadConfig 4 := update running.heads.config 0 { zone := some 3, red := true, green := false, blue := true }
     cfg[headOf 1].zone ≠ none ∧ channelEnabled cfg[headOf 1] 1 = false) ∧
    OccupancyUnit.reset.config[(0 : Zone)].enable = false := by
  unfold lights
  decide +kernel

theorem witness_TransactionsAndLinesOnlyMove :
    State.reset.port = .closed ∧ State.reset.node.loading ≠ .held ∧
    (after .resetLineAssert running).port = .closed ∧ (after .resetLineAssert running).node.loading = .held ∧
    running.port = .opened ∧ (after .capture running).port = .answered [0] false ∧
    requestBytes (.publishOccupy 1) ≠ [] ∧ Instr.wellFormed (.publishOccupy 1) = true ∧ 4 < (requestBytes (.publishOccupy 1)).length ∧
    requestBytes (.badRequest 0x21) ≠ [] ∧ Instr.wellFormed (.badRequest 0x21) = true := by decide +kernel

theorem witness_RequestsAreScreenedInOrder :
    running.port = .opened ∧ 0x21#8 ∉ requestCodes ∧ (State.reset.setPort .opened).node.phase = .loading ∧ running.node.phase ≠ .commission ∧
    31 < (32#8).toNat ∧ 0x20#8 &&& 0xE0#8 ≠ 0 ∧ 15 < (16#8).toNat ∧ 0x02#8 &&& 0xFE#8 ≠ 0 ∧ 3 < (4#8).toNat ∧
    28 < (27#8).toNat + (2#8).toNat ∧ 2047 < (2048#16).toNat ∧ 2048 < 2047 + (2#8).toNat ∧ 2048 < 2048 + (1#8).toNat ∧
    (running.setStore { running.store with pointer := 2047 }).store.pointer = 2047 ∧
    readRequest [0x40#8, 0x07, 0xFF] = some (.configPoint 0x07FF) ∧
    (running.setStore { running.store with write := .writing 0 9 0 }).store.write ≠ .idle := by decide +kernel

theorem witness_ReadsAnswerAndKeepTheState :
    Serving running ∧ (28#8) ≠ 0 ∧ (0#8).toNat + (28#8).toNat ≤ 28 ∧ PeerRecord.reset.sinceLane.a ≤ 3 ∧ PeerRecord.reset.sinceLane.b ≤ 3 ∧ 27 + 1 ≤ 28 := by
  unfold Serving
  decide +kernel

theorem witness_NextEventTakesTheHighestPriority :
    Serving running ∧ running.events.records.inOrder = List.replicate 14 none ∧
    (raise (.configWriteDone 5) running).events.records.inOrder[13]? = some (some (.configWriteDone 5)) ∧
    (∀ j, j < 13 → (raise (.configWriteDone 5) running).events.records.inOrder[j]? = some none) := by
  unfold Serving
  decide +kernel

theorem witness_ConfigRequestsServeTheStore :
    Serving running ∧ running.store.write = .idle ∧ (2047#16).toNat ≤ 2047 ∧ (1#8) ≠ 0 ∧ running.store.pointer + (255#8).toNat ≤ 2048 ∧
    (inPhase .commission .idle).node.phase = .commission ∧ (inPhase .commission .idle).port = .opened ∧
    (inPhase .commission .idle).store.pointer = (0 : Fin 2048).val ∧
    ((inPhase .commission .idle).setStore { running.store with pointer := 2048 }).store.pointer = 2048 := by
  unfold Serving
  decide +kernel

theorem witness_ConfigWriteDone :
    ((inPhase .commission .idle).setStore { running.store with pointer := 2047, write := .writing 2047 9 0 }).store.write = .writing 2047 9 0 ∧
    StoreWf ((inPhase .commission .idle).setStore { running.store with pointer := 2047, write := .writing 2047 9 0 }) := by
  unfold StoreWf
  decide +kernel

/-- The sample with its first counter one below its greatest value. -/
def nearlyFull : State := running.setCounters { running.counters with live := update running.counters.live 0 0xFFFFFFFE }

theorem witness_CountsSaturateOnce :
    nearlyFull.counters.live[(0 : Fin 28)] = 0xFFFFFFFE#32 ∧ nearlyFull.counters.latch = false ∧
    running.counters.live[(0 : Fin 28)] ≠ 0xFFFFFFFE#32 := by decide +kernel

theorem witness_CaptureMovesTheLiveBank :
    running.port = .opened ∧ running.node.phase ≠ .loading ∧ (State.reset.setPort .opened).node.phase = .loading := by decide

theorem witness_RaisesMergeByForm :
    (eventBytes (.zoneChanged 1))[0]? ≠ some (BitVec.ofNat 8 0) ∧ attn (raise (.zoneChanged 1) running) = true ∧ attn running = false := by
  decide +kernel

end Sys2Proof.Tests
end

section
/-! The stamp order of settings and what follows from it for merges: O11, O13 and O12. -/

namespace Sys2Proof.Machine

open Sys2Proof

/-! ## The stamp order -/

/-- The stamp order in numbers. -/
theorem higher_iff (x y : Setting) :
    higher x y = true ↔
      y.stamp.toNat < x.stamp.toNat ∨ (x.stamp.toNat = y.stamp.toNat ∧ y.origin.val < x.origin.val) := by
  simp [higher, BitVec.toNat_inj]

/-- Equal pairs in numbers. -/
theorem samePair_iff (x y : Setting) :
    samePair x y = true ↔ x.stamp.toNat = y.stamp.toNat ∧ x.origin.val = y.origin.val := by
  simp [samePair, BitVec.toNat_inj, Fin.ext_iff]

theorem higher_eq_false_iff (x y : Setting) :
    higher x y = false ↔
      x.stamp.toNat < y.stamp.toNat ∨ (x.stamp.toNat = y.stamp.toNat ∧ x.origin.val ≤ y.origin.val) := by
  rw [← Bool.not_eq_true, higher_iff]
  omega

theorem samePair_eq_false_iff (x y : Setting) :
    samePair x y = false ↔ x.stamp.toNat ≠ y.stamp.toNat ∨ x.origin.val ≠ y.origin.val := by
  rw [← Bool.not_eq_true, samePair_iff]
  omega

theorem higher_trans {x y z : Setting} (hxy : higher x y = true) (hyz : higher y z = true) : higher x z = true := by
  rw [higher_iff] at *
  omega

/-- Of two settings one is higher, or their pairs are equal, and only one of the three holds. -/
theorem stampOrder_trichotomy (x y : Setting) :
    (higher x y = true ∧ samePair x y = false ∧ higher y x = false) ∨
    (higher x y = false ∧ samePair x y = true ∧ higher y x = false) ∨
    (higher x y = false ∧ samePair x y = false ∧ higher y x = true) := by
  simp only [higher_eq_false_iff, samePair_eq_false_iff, higher_iff, samePair_iff]
  omega

/-- Settles O11: the order reads off stamps and origins alone, and is lexicographic in them. -/
theorem stampOrderIsLexicographic : Obligations.StampOrderIsLexicographic := by
  unfold Obligations.StampOrderIsLexicographic
  refine ⟨fun x y => ?_, fun x y => ?_, stampOrder_trichotomy, ?_, ?_, ?_⟩
  · rw [higher_iff, BitVec.toNat_inj]
  · rw [samePair_iff, BitVec.toNat_inj, Fin.ext_iff]
  · intro x y hx _ hy _
    exact (higher_iff x y).mpr (.inl (by rw [hx, hy]; decide))
  · intro x y hx hxo hy hyo
    exact (higher_iff x y).mpr (.inr ⟨by rw [hx, hy], by rw [hxo, hyo]; decide⟩)
  · intro x y x' y' hx hxo hy hyo
    simp only [higher, samePair, hx, hxo, hy, hyo, and_self]

/-! ## Two merges for one zone -/

/-- Two Zone Stores that agree on every field are the same. -/
theorem ZoneStore.eq_of_fields (a b : ZoneStore) (table : a.table = b.table) (clock : a.clock = b.clock)
    (exhausted : a.exhausted = b.exhausted) (defaults : a.defaults = b.defaults) (library : a.library = b.library)
    (checksum : a.checksum = b.checksum) : a = b := by
  cases a
  cases b
  simp_all

/-- Of two different pairs the higher stays in the entry, whichever came first. -/
theorem mergedEntry_comm (held : Option Setting) (x y : Setting) (h : samePair x y = false) :
    mergedEntry (mergedEntry held y) x = mergedEntry (mergedEntry held x) y := by
  have hxy := stampOrder_trichotomy x y
  cases held with
  | none =>
    rcases hxy with ⟨h1, -, h2⟩ | ⟨-, h1, -⟩ | ⟨h1, -, h2⟩
    · simp [mergedEntry, replaces, h1, h2]
    · simp [h] at h1
    · simp [mergedEntry, replaces, h1, h2]
  | some e =>
    rcases hxy with ⟨h1, -, h2⟩ | ⟨-, h1, -⟩ | ⟨h1, -, h2⟩
    · by_cases hy : higher y e = true
      · simp [mergedEntry, replaces, h1, h2, hy, higher_trans h1 hy]
      · by_cases hx : higher x e = true <;> simp [mergedEntry, replaces, h2, hy, hx]
    · simp [h] at h1
    · by_cases hx : higher x e = true
      · simp [mergedEntry, replaces, h1, h2, hx, higher_trans h2 hx]
      · by_cases hy : higher y e = true <;> simp [mergedEntry, replaces, h1, hy, hx]

/-- A pair no other than the one just merged changes nothing. -/
theorem mergedEntry_equal (held : Option Setting) (x y : Setting) (h : samePair x y = true) :
    mergedEntry (mergedEntry held x) y = mergedEntry held x := by
  have hyx : higher y x = false := by
    rcases stampOrder_trichotomy x y with ⟨-, h', -⟩ | ⟨-, -, h'⟩ | ⟨-, h', -⟩ <;> simp_all
  cases held with
  | none => simp [mergedEntry, replaces, hyx]
  | some e =>
    by_cases hx : higher x e = true
    · simp [mergedEntry, replaces, hyx, hx]
    · have hy : higher y e = false := by
        rw [Bool.not_eq_true, higher_eq_false_iff] at hx
        rw [higher_eq_false_iff]
        rw [samePair_iff] at h
        omega
      simp [mergedEntry, replaces, hy, hx]

/-- Settles O13: entry and clock are those of the higher setting in either order. -/
theorem mergeOrderDoesNotMatter : Obligations.MergeOrderDoesNotMatter := by
  unfold Obligations.MergeOrderDoesNotMatter
  intro z x y s
  refine ⟨fun h => ?_, fun h => ?_⟩
  · apply ZoneStore.eq_of_fields <;> try simp
    · apply table_ext
      intro i
      simp only [merge_table, if_true]
      rw [mergedEntry_comm _ _ _ h]
      split <;> rfl
    · apply BitVec.eq_of_toNat_eq
      simp only [merge_clock]
      omega
  · apply ZoneStore.eq_of_fields <;> try simp
    · apply table_ext
      intro i
      simp only [merge_table, if_true, mergedEntry_equal _ _ _ h]
      split <;> rfl
    · apply BitVec.eq_of_toNat_eq
      have hs := ((samePair_iff x y).mp h).1
      simp only [merge_clock]
      omega

/-! ## The merge rule, case by case -/

/-- What a replaced entry does to the heads: the recomputation of its zone. -/
theorem replaceEntry_heads (z : Zone) (x : Setting) (s : State) :
    (replaceEntry z x s).heads =
      (recomputeHeads z x.fade
        (raise (.zoneChanged (oneOf z)) (s.setZoneStore { s.zoneStore with table := update s.zoneStore.table z (some x) }))).heads := rfl

/-- The zone of a replaced entry shows the setting. -/
theorem effective_update (store : ZoneStore) (z : Zone) (x : Setting) :
    effective { store with table := update store.table z (some x) } z = { colour := x.colour, level := x.level, fade := x.fade } := by
  simp [effective]

/-- A channel lit by the zone of a replaced entry starts its fade to the setting. -/
theorem replaceEntry_lit (z : Zone) (x : Setting) (s : State) (h : s.node.phase.headsFollow = true) (ch : Channel)
    (hl : lights s.heads z ch) :
    (replaceEntry z x s).heads.channels[ch] =
      startFade (targetOf (componentOf x.colour ch) x.level (factorOf s.occupancy z)) x.fade s.heads.channels[ch] := by
  rw [replaceEntry_heads, recomputeHeads_lit _ _ _ (by simpa using h) ch (by simpa using hl)]
  simp [effective_update]

theorem replaceEntry_masked (z : Zone) (x : Setting) (s : State) (h : s.node.phase.headsFollow = true) (ch : Channel)
    (hz : s.heads.config[headOf ch].zone = some z) (hm : channelEnabled s.heads.config[headOf ch] ch = false) :
    (replaceEntry z x s).heads.channels[ch] = maskedChannel := by
  rw [replaceEntry_heads]
  exact recomputeHeads_masked _ _ _ (by simpa using h) ch (by simpa using hz) (by simpa using hm)

theorem replaceEntry_other (z : Zone) (x : Setting) (s : State) (ch : Channel) (hz : s.heads.config[headOf ch].zone ≠ some z) :
    (replaceEntry z x s).heads.channels[ch] = s.heads.channels[ch] := by
  rw [replaceEntry_heads, recomputeHeads_other _ _ _ ch (by simpa using hz)]
  simp

theorem replaceEntry_off (z : Zone) (x : Setting) (s : State) (h : s.node.phase.headsFollow = false) :
    (replaceEntry z x s).heads = s.heads := by
  rw [replaceEntry_heads, recomputeHeads, recomputeWhere_off _ _ _ (by simpa using h)]
  simp

/-- Of the Head Unit a replaced entry moves the channels alone. -/
theorem replaceEntry_channelsOnly (z : Zone) (x : Setting) (s : State) :
    (replaceEntry z x s).heads = { s.heads with channels := (replaceEntry z x s).heads.channels } := by
  rw [replaceEntry_heads, recomputeHeads_heads]
  simp

/-- What a merge can do: replace the entry, or leave it with the clock raised, counting a lower pair. -/
theorem merge_cases (z : Zone) (x : Setting) (s : State) :
    (replaces s.zoneStore.table[z] x = true ∧ merge z x s = replaceEntry z x (raiseClock x.stamp s)) ∨
    (replaces s.zoneStore.table[z] x = false ∧
      (merge z x s = raiseClock x.stamp s ∨ merge z x s = countNode .setSuperseded (raiseClock x.stamp s))) := by
  by_cases hr : replaces s.zoneStore.table[z] x = true
  · exact .inl ⟨hr, merge_replaces z x s hr⟩
  · refine .inr ⟨by simpa using hr, ?_⟩
    cases he : s.zoneStore.table[z] with
    | none => simp [he, replaces] at hr
    | some e =>
      have hx : higher x e = false := by simpa [he, replaces] using hr
      by_cases hp : samePair x e = true
      · exact .inl (merge_equal z x e s he hx hp)
      · exact .inr (merge_lower z x e s he hx (by simpa using hp))

/-- Of the Head Unit a merge moves the channels alone. -/
theorem merge_channelsOnly (z : Zone) (x : Setting) (s : State) :
    (merge z x s).heads = { s.heads with channels := (merge z x s).heads.channels } := by
  rcases merge_cases z x s with ⟨-, h⟩ | ⟨-, h | h⟩
  · rw [h, replaceEntry_channelsOnly]
    simp
  · rw [h]
    simp
  · rw [h]
    simp

/-- A merge touches the Zone Store, the heads, the counters and the events alone. -/
theorem merge_changes (z : Zone) (x : Setting) (s : State) :
    merge z x s =
      { s with zoneStore := (merge z x s).zoneStore, heads := (merge z x s).heads, counters := (merge z x s).counters,
               events := (merge z x s).events } := by
  apply State.eq_of_fields <;> simp

/-- The table is as it was where the merged pair does not replace the entry. -/
theorem merge_table_kept (z : Zone) (x : Setting) (s : State) (h : replaces s.zoneStore.table[z] x = false) :
    (merge z x s).zoneStore.table = s.zoneStore.table := by
  apply table_ext
  intro i
  rw [merge_table, mergedEntry, h]
  by_cases hi : i = z <;> simp [hi]

/-- An EMPTY entry or a lower pair gives way to the setting. -/
theorem replaces_iff (held : Option Setting) (x : Setting) :
    replaces held x = true ↔ held = none ∨ ∃ e, held = some e ∧ higher x e = true := by
  cases held <;> simp [replaces]

/-- Settles O12: the rule's cases are `merge_replaces`, `merge_equal` and `merge_lower`. -/
theorem mergeKeepsTheHigherSetting : Obligations.MergeKeepsTheHigherSetting := by
  unfold Obligations.MergeKeepsTheHigherSetting
  intro z x s t
  refine ⟨merge_clock z x s, ?_, fun z' hz => ?_, fun h => ?_, fun e he hp => ?_, fun e he hh => ?_, merge_channelsOnly z x s,
    merge_changes z x s⟩
  · apply ZoneStore.eq_of_fields <;> simp [t]
  · rw [merge_table, if_neg hz]
  · have hr : replaces s.zoneStore.table[z] x = true := (replaces_iff _ _).mpr h
    have ht : t = replaceEntry z x (raiseClock x.stamp s) := merge_replaces z x s hr
    refine ⟨?_, by rw [ht]; simp, by rw [ht, replaceEntry_events]; simp, fun hf ch hl => ?_, fun hf ch hz hm => ?_, fun ch hz => ?_,
      fun hf => ?_⟩
    · rw [merge_table, if_pos rfl, mergedEntry, if_pos hr]
    · rw [ht, replaceEntry_lit _ _ _ (by simpa using hf) ch (by simpa using hl)]
      simp
    · rw [ht, replaceEntry_masked _ _ _ (by simpa using hf) ch (by simpa using hz) (by simpa using hm)]
      rfl
    · rw [ht, replaceEntry_other _ _ _ ch (by simpa using hz)]
      simp
    · rw [ht, replaceEntry_off _ _ _ (by simpa using hf)]
      simp
  · have hh : higher x e = false := by
      rcases stampOrder_trichotomy x e with ⟨-, h', -⟩ | ⟨h', -, -⟩ | ⟨-, h', -⟩ <;> simp_all
    have ht : t = raiseClock x.stamp s := merge_equal z x e s he hh hp
    simp [ht]
  · obtain ⟨hx, hp⟩ : higher x e = false ∧ samePair x e = false := by
      rcases stampOrder_trichotomy x e with ⟨-, -, h'⟩ | ⟨-, -, h'⟩ | ⟨h1, h2, -⟩ <;> simp_all
    have ht : t = countNode .setSuperseded (raiseClock x.stamp s) := merge_lower z x e s he hx hp
    refine ⟨merge_table_kept z x s (by simp [he, replaces, hx]), by rw [ht]; simp, fun i => ?_, ?_⟩
    · rw [ht, countNode, countAt_live]
      simp [nodeIndex]
    · rw [ht, countNode, countAt_events]
      simp

end Sys2Proof.Machine
end

section
/-! No operation but a reset lets the stamp clock or a HELD entry fall: O7. -/

namespace Sys2Proof.Machine

open Sys2Proof

/-- From `s` to `t` the stamp clock does not fall, a HELD entry stays HELD, and it is replaced only by a higher pair (R5, R7, R9). -/
def Rises (s t : State) : Prop :=
  s.zoneStore.clock.toNat ≤ t.zoneStore.clock.toNat ∧
    ∀ (z : Zone) (x : Setting), s.zoneStore.table[z] = some x →
      ∃ y, t.zoneStore.table[z] = some y ∧ (y = x ∨ higher y x = true)

namespace Rises

theorem of_kept {s t : State} (clock : t.zoneStore.clock = s.zoneStore.clock) (table : t.zoneStore.table = s.zoneStore.table) :
    Rises s t :=
  ⟨by rw [clock], fun _ x hx => ⟨x, by rw [table, hx], .inl rfl⟩⟩

theorem of_eq {s t : State} (h : t.zoneStore = s.zoneStore) : Rises s t := of_kept (by rw [h]) (by rw [h])

theorem refl (s : State) : Rises s s := of_eq rfl

theorem trans {s t u : State} (h : Rises s t) (h' : Rises t u) : Rises s u := by
  refine ⟨h.1.trans h'.1, fun z x hx => ?_⟩
  obtain ⟨y, hy, hyx⟩ := h.2 z x hx
  obtain ⟨w, hw, hwy⟩ := h'.2 z y hy
  refine ⟨w, hw, ?_⟩
  rcases hwy with rfl | hwy
  · exact hyx
  · rcases hyx with rfl | hyx
    · exact .inr hwy
    · exact .inr (higher_trans hwy hyx)

/-- A turn that leaves the Zone Store may follow. -/
theorem then_eq {s t u : State} (h : Rises s t) (h' : u.zoneStore = t.zoneStore) : Rises s u := h.trans (of_eq h')

theorem foldl {α : Type} (f : State → α → State) (h : ∀ s a, Rises s (f s a)) (l : List α) (s : State) : Rises s (l.foldl f s) :=
  foldl_inv (Rises s) f (fun b a hb => hb.trans (h b a)) l s (refl s)

end Rises

/-! ## Settings and publications -/

theorem raiseClock_rises (x : Word32) (s : State) : Rises s (raiseClock x s) :=
  ⟨by rw [(raiseClock_zoneStore x s).2]; omega, fun _ e he => ⟨e, by simpa using he, .inl rfl⟩⟩

theorem merge_rises (z : Zone) (x : Setting) (s : State) : Rises s (merge z x s) := by
  refine ⟨by rw [merge_clock]; omega, fun y e he => ?_⟩
  rw [merge_table]
  by_cases hy : y = z
  · subst hy
    by_cases hx : higher x e = true
    · exact ⟨x, by simp [mergedEntry, replaces, he, hx], .inr hx⟩
    · exact ⟨e, by simp [mergedEntry, replaces, he, hx], .inl rfl⟩
  · exact ⟨e, by rw [if_neg hy, he], .inl rfl⟩

theorem mergeLook_rises (look : Look) (stamp : Word32) (origin : Station) (s : State) : Rises s (mergeLook look stamp origin s) :=
  Rises.foldl _ (fun s _ => merge_rises _ _ s) _ s

theorem takeStamp_rises (s : State) : Rises s (takeStamp s).2 := by
  unfold takeStamp
  split
  · exact .of_kept rfl rfl
  · next h =>
    refine ⟨?_, fun _ x hx => ⟨x, hx, .inl rfl⟩⟩
    simp only [State.setZoneStore_zoneStore, maxWord] at h ⊢
    bv_omega

theorem performSet_rises (z : Zone) (c : Colour) (l : Byte) (f : FadeCode) (w : Bool) (cause : WakeCause) (s : State) :
    Rises s (performSet z c l f w cause s).state := by
  have h := takeStamp_rises s
  unfold performSet
  split
  · next heq => simpa [heq] using h
  · next stamp stamped heq =>
    rw [heq] at h
    refine (h.trans (merge_rises z ⟨c, l, f, stamp, ownStation s, .set⟩ stamped)).then_eq ?_
    dsimp only [publishedBy]
    split <;> simp

theorem performRecall_rises (k : Look) (w : Bool) (cause : WakeCause) (s : State) : Rises s (performRecall k w cause s).state := by
  have h := takeStamp_rises s
  unfold performRecall
  split
  · exact .refl s
  · split
    · next heq => simpa [heq] using h
    · next stamp stamped heq =>
      rw [heq] at h
      refine (h.trans (mergeLook_rises k stamp (ownStation s) stamped)).then_eq ?_
      dsimp only [publishedBy]
      split <;> simp

theorem performOccupy_zoneStore (zones : ZoneSet) (cause : WakeCause) (s : State) :
    (performOccupy zones cause s).state.zoneStore = s.zoneStore := by
  simp [performOccupy, publishedBy]

theorem performHeld_rises (h : HeldRequest) (s : State) : Rises s (performHeld h s).state := by
  match h with
  | .set _ _ _ _ _ _ => exact performSet_rises _ _ _ _ _ _ s
  | .recall _ _ _ => exact performRecall_rises _ _ _ s
  | .occupy _ _ => exact .of_eq (performOccupy_zoneStore _ _ s)
  | .action _ _ _ => exact performSet_rises _ _ _ _ _ _ s

/-! ## Catch-up and requests -/

theorem enterRunning_rises (how : Completion) (s : State) : Rises s (enterRunning how s) := by
  unfold enterRunning releaseHeld
  refine Rises.trans (Rises.of_eq ?_) (Rises.foldl _ (fun s h => performHeld_rises h s) _ _)
  simp

theorem askFailed_rises (s : State) : Rises s (askFailed s) := by
  unfold askFailed
  split
  · split
    · exact enterRunning_rises _ _
    · dsimp only
      split
      · exact .of_eq (by simp)
      · exact Rises.trans (.of_eq (by simp)) (enterRunning_rises _ _)
  · exact .refl s

theorem reportLost_rises (b : Bool) (s : State) : Rises s (reportLost b s) := by
  unfold reportLost
  split
  · exact askFailed_rises s
  · exact .refl s

theorem enterCatchUp_rises (s : State) : Rises s (enterCatchUp s) := by
  unfold enterCatchUp
  dsimp only
  split
  · exact .of_eq (by simp)
  · exact Rises.trans (.of_eq (by simp)) (askFailed_rises _)

theorem answerOf_rises (s : State) (p : Published) (h : Rises s p.state) : Rises s (answerOf p).state :=
  h.trans (reportLost_rises _ _)

theorem requestByPhase_rises (h : HeldRequest) (s : State) : Rises s (requestByPhase h s).state := by
  unfold requestByPhase
  split
  case h_5 => exact answerOf_rises s _ (performHeld_rises h s)
  all_goals exact .of_eq (by simp)

theorem requestOccupy_rises (zones : ZoneSet) (cause : WakeCause) (s : State) : Rises s (requestOccupy zones cause s).state := by
  unfold requestOccupy
  split
  case h_5 => exact answerOf_rises s _ (.of_eq (performOccupy_zoneStore _ _ s))
  all_goals exact .of_eq (by simp)

theorem requestOfKind_rises (k : InputKind) (s : State) : Rises s (requestOfKind k s) := by
  match k with
  | .unused => exact .refl s
  | .sensor _ => exact requestOccupy_rises _ _ s
  | .recall _ => exact requestByPhase_rises _ s
  | .action _ _ _ => exact requestByPhase_rises _ s

theorem settleInput_rises (line : Line) (s : State) : Rises s (settleInput line s) := by
  unfold settleInput
  dsimp only
  split
  · exact Rises.trans (.of_eq (by simp)) (requestOfKind_rises _ _)
  · split <;> exact .of_eq (by simp)

theorem answerAll_zoneStore (s : State) : (answerAll s).zoneStore = s.zoneStore := by
  unfold answerAll
  dsimp only
  rw [State.setCatchUp_zoneStore]
  exact foldl_keep State.zoneStore _ (by intros; simp) _ _

/-! ## Lanes and frames -/

theorem settle_rises (s : State) : Rises s (settle s) :=
  Rises.trans (t := s.setTx { s.tx with records := s.tx.records.filter TxRecord.live }) (.of_eq rfl)
    (Rises.foldl _ (fun s (r : TxRecord) => reportLost_rises r.unsentAsk s) _ _)

theorem failAttempt_rises (L : Lane) (s : State) : Rises s (failAttempt L s) := by
  unfold failAttempt
  split
  · exact .refl s
  · dsimp only
    split
    · exact .of_eq (by simp)
    · exact Rises.trans (.of_eq (by simp)) (settle_rises _)

theorem completeCopy_rises (L : Lane) (s : State) : Rises s (completeCopy L s) := by
  unfold completeCopy
  split
  · exact .refl s
  · refine Rises.trans (.of_eq ?_) (settle_rises _)
    split <;> simp

/-- A wake after an accepted SET leaves the Zone Store as the merge made it. -/
theorem acceptSet_zoneStore (f : Frame) (z : Zone) (c : Colour) (l : Byte) (x : FadeCode) (w : Bool) (s : State) :
    (acceptSet f z c l x w s).zoneStore =
      (merge z { colour := c, level := l, fade := x, stamp := f.stamp, origin := f.origin, source := .set } s).zoneStore := by
  cases w <;> simp [acceptSet]

/-- The wakes after an accepted RECALL leave the Zone Store as the merges made it. -/
theorem acceptRecall_zoneStore (f : Frame) (k : Look) (c : Word16) (w : Bool) (s : State) :
    (acceptRecall f k c w s).zoneStore =
      if s.zoneStore.checksum = some c then (mergeLook k f.stamp f.origin s).zoneStore else s.zoneStore := by
  by_cases h : s.zoneStore.checksum = some c <;> cases w <;> simp [acceptRecall, h]

/-- The strikes of an accepted SYNC_ENTRY leave the Zone Store as the merges made it. -/
theorem acceptEntries_zoneStore (entries : List SyncEntry) (s : State) :
    (acceptEntries entries s).zoneStore = (entries.foldl (fun s e => merge e.zone e.setting s) s).zoneStore := by
  simp [acceptEntries]

theorem acceptFrame_rises (f : Frame) (s : State) : Rises s (acceptFrame f s) := by
  refine (raiseClock_rises f.stamp s).trans (u := handleFrame f _) ?_
  unfold handleFrame
  split
  · exact .of_eq (by simp)
  · exact (merge_rises _ _ _).then_eq (acceptSet_zoneStore _ _ _ _ _ _ _)
  · next checksum _ _ =>
    by_cases hc : (raiseClock f.stamp s).zoneStore.checksum = some checksum
    · exact (mergeLook_rises _ _ _ _).then_eq ((acceptRecall_zoneStore _ _ _ _ _).trans (if_pos hc))
    · exact .of_eq ((acceptRecall_zoneStore _ _ _ _ _).trans (if_neg hc))
  · exact .of_eq (by simp)
  · exact .of_eq (by simp)
  · exact (Rises.foldl _ (fun s e => merge_rises _ _ s) _ _).then_eq (acceptEntries_zoneStore _ _)

theorem filterFrame_rises (L : Lane) (f : Frame) (s : State) : Rises s (filterFrame L f s) := by
  unfold filterFrame
  dsimp only
  split
  · exact Rises.trans (.of_eq (by simp)) (acceptFrame_rises f _)
  · exact Rises.trans (.of_eq (by simp)) (acceptFrame_rises f _)
  · exact .of_eq (by simp)
  · exact .of_eq (by simp)

theorem takeGood_rises (L : Lane) (f : Frame) (s : State) : Rises s (takeGood L f s) := by
  refine Rises.trans (.of_eq ?_) (filterFrame_rises L f _)
  split <;> split <;> simp

theorem frameReceived_rises (L : Lane) (bytes : List Byte) (s t : State) (h : execFrameReceived L bytes s = .next t) : Rises s t := by
  have bad (c : LaneCounter) : Rises s (takeBad L c s) := Rises.trans (.of_eq (by simp)) (failAttempt_rises L _)
  unfold execFrameReceived at h
  split at h
  · split at h
    · cases h; exact bad _
    · cases h; exact bad _
    · cases h; exact bad _
    · cases h; exact bad _
    · split at h
      · cases h; exact completeCopy_rises L s
      · cases h; exact takeGood_rises L _ s
  · cases h; exact .refl s

/-! ## Time, start-up and the port -/

theorem countListenExpiry_rises (s : State) : Rises s (countListenExpiry s) := by
  unfold countListenExpiry
  dsimp only
  split
  · split
    · exact Rises.trans (.of_eq (by simp)) (enterCatchUp_rises _)
    · exact .of_eq (by simp)
  · exact .refl s

theorem endLoading_rises (found : Validation) (s : State) : Rises s (endLoading found s) := by
  unfold endLoading
  split
  · dsimp only
    split <;> exact .of_kept (by simp [handConfiguration]) (by simp [handConfiguration])
  · exact .of_kept (by simp [handInvalid]) (by simp [handInvalid])

theorem startCounterWriteDone_rises (s t : State) (h : execStartCounterWriteDone s = .next t) : Rises s t := by
  unfold execStartCounterWriteDone at h
  split at h
  · dsimp only at h
    split at h
    · cases h; exact .of_eq (by simp)
    · cases h; exact Rises.trans (.of_eq (by simp)) (endLoading_rises _ _)
  · cases h; exact .refl s

theorem presenceExpiry_rises (s t : State) (h : execPresenceExpiry s = .next t) : Rises s t := by
  unfold execPresenceExpiry at h
  split at h
  · cases h; exact Rises.trans (.of_eq (by simp)) (countListenExpiry_rises _)
  · cases h; exact .refl s

theorem laneFaultAssert_rises (L : Lane) (s t : State) (h : execLaneFaultAssert L s = .next t) : Rises s t := by
  unfold execLaneFaultAssert at h
  split at h
  · cases h; exact .refl s
  · cases h
    refine Rises.trans (.of_eq ?_) (settle_rises _)
    split <;> simp

/-- The expiries of the Catch-Up Unit. -/
theorem catchUpExpiries_rise (s t : State) (h : execCatchUpWindowExpiry s = .next t ∨ execBackoffExpiry s = .next t) : Rises s t := by
  rcases h with h | h
  · unfold execCatchUpWindowExpiry at h
    split at h
    · cases h; exact Rises.trans (.of_eq (by simp)) (enterRunning_rises _ _)
    · cases h; exact .refl s
  · unfold execBackoffExpiry at h
    split at h
    · cases h; exact .of_eq (by simp [answerAll_zoneStore])
    · cases h; exact .refl s

/-- The expiries of the Input Unit. -/
theorem inputExpiries_rise (line : Line) (s t : State)
    (h : execDebounceExpiry line s = .next t ∨ execRepeatExpiry line s = .next t ∨ execRefreshExpiry line s = .next t) : Rises s t := by
  rcases h with h | h | h
  · unfold execDebounceExpiry at h
    dsimp only at h
    split at h
    · cases h; exact Rises.trans (.of_eq (by simp)) (settleInput_rises _ _)
    · cases h; exact .refl s
  · unfold execRepeatExpiry at h
    dsimp only at h
    split at h
    · cases h; exact Rises.trans (.of_eq (by simp)) (requestOfKind_rises _ _)
    · cases h; exact .refl s
  · unfold execRefreshExpiry at h
    dsimp only at h
    split at h
    · cases h; exact Rises.trans (.of_eq (by simp)) (requestOfKind_rises _ _)
    · cases h; exact .refl s

/-- The expiries of the Occupancy Unit leave the Zone Store. -/
theorem occupancyExpiries_zoneStore (z : Zone) (s t : State) (h : execGraceExpiry z s = .next t ∨ execVacantExpiry z s = .next t) :
    t.zoneStore = s.zoneStore := by
  rcases h with h | h
  · unfold execGraceExpiry at h
    dsimp only at h
    (repeat' split at h) <;> cases h <;> simp [becomeVacant]
  · unfold execVacantExpiry at h
    dsimp only at h
    split at h <;> cases h <;> simp [becomeDark]

theorem inputLevelChange_zoneStore (line : Line) (high : Bool) (s t : State) (h : execInputLevelChange line high s = .next t) :
    t.zoneStore = s.zoneStore := by
  unfold execInputLevelChange at h
  dsimp only at h
  (repeat' split at h) <;> cases h <;> simp

/-! ## Resets and requests -/

/-- A command that resets the node leaves it in LOADING, or is none of its edges and leaves the Zone Store. -/
theorem resets_zoneStore (c : Instr) (s t : State)
    (hc : c = .powerOn ∨ c = .lossOfSupply ∨ c = .resetLineAssert ∨ c = .resetLineRelease ∨ c = .chipSelectRelease)
    (h : exec c s = .next t) : t.node.phase = .loading ∨ t.zoneStore = s.zoneStore := by
  rcases hc with rfl | rfl | rfl | rfl | rfl
  · simp only [exec, execPowerOn] at h
    split at h <;> cases h <;> exact .inl rfl
  · cases h; exact .inl rfl
  · simp only [exec, execResetLineAssert] at h
    (repeat' split at h) <;> cases h
    · exact .inr rfl
    · exact .inl rfl
    · exact .inr rfl
  · simp only [exec, execResetLineRelease] at h
    (repeat' split at h) <;> cases h <;> exact .inr (by simp)
  · simp only [exec, execChipSelectRelease] at h
    split at h <;> cases h
    · exact .inl rfl
    all_goals exact .inr rfl

theorem Rises.of_reset (c : Instr) (s t : State)
    (hc : c = .powerOn ∨ c = .lossOfSupply ∨ c = .resetLineAssert ∨ c = .resetLineRelease ∨ c = .chipSelectRelease)
    (h : exec c s = .next t) (hp : t.node.phase ≠ .loading) : Rises s t :=
  .of_eq ((resets_zoneStore c s t hc h).resolve_left hp)

theorem serve_rises {α : Type} (which : Screening) (arg : Option α) (act : α → State → Served) (s t : State)
    (hact : ∀ x, Rises s (act x s).state) (h : serve which arg act s = .next t) : Rises s t := by
  have hs : Rises s (screen which arg act s).state := by
    unfold screen
    split
    · exact .refl s
    · split
      · exact .refl s
      · split
        · exact .refl s
        · split
          · exact .refl s
          · exact hact _
  unfold serve at h
  split at h
  · cases h; exact hs.then_eq rfl
  · cases h; exact .refl s
  · cases h; exact .refl s

/-- Every command but one that ends in a reset leaves clock and entries no lower than they were. -/
theorem exec_rises (c : Instr) (s t : State) (h : exec c s = .next t) (hp : t.node.phase ≠ .loading) : Rises s t := by
  cases c
  case powerOn => exact .of_reset _ s t (by simp) h hp
  case lossOfSupply => exact .of_reset _ s t (by simp) h hp
  case resetLineAssert => exact .of_reset _ s t (by simp) h hp
  case resetLineRelease => exact .of_reset _ s t (by simp) h hp
  case chipSelectRelease => exact .of_reset _ s t (by simp) h hp
  case loadingReadDone =>
    simp only [exec, execLoadingReadDone] at h
    split at h <;> cases h <;> exact .of_eq (by simp)
  case startCounterWriteDone => exact startCounterWriteDone_rises s t h
  case frameReceived L bytes => exact frameReceived_rises L bytes s t h
  case copyStart L =>
    simp only [exec, execCopyStart] at h
    split at h <;> cases h <;> exact .of_eq (by simp)
  case contestLost L => cases h; exact failAttempt_rises L s
  case copyEndNothingTakenBack L => cases h; exact failAttempt_rises L s
  case laneFaultAssert L => exact laneFaultAssert_rises L s t h
  case laneFaultClear L => cases h; exact .of_eq (by simp)
  case presenceExpiry => exact presenceExpiry_rises s t h
  case catchUpWindowExpiry => exact catchUpExpiries_rise s t (.inl h)
  case backoffExpiry => exact catchUpExpiries_rise s t (.inr h)
  case graceExpiry z => exact .of_eq (occupancyExpiries_zoneStore z s t (.inl h))
  case vacantExpiry z => exact .of_eq (occupancyExpiries_zoneStore z s t (.inr h))
  case inputLevelChange line high => exact .of_eq (inputLevelChange_zoneStore line high s t h)
  case debounceExpiry line => exact inputExpiries_rise line s t (.inl h)
  case repeatExpiry line => exact inputExpiries_rise line s t (.inr (.inl h))
  case refreshExpiry line => exact inputExpiries_rise line s t (.inr (.inr h))
  case fadeTick =>
    simp only [exec, execFadeTick] at h
    split at h <;> cases h <;> exact .of_eq (by simp [takeFadeTick])
  case pwmPeriodStart =>
    simp only [exec, execPwmPeriodStart] at h
    split at h <;> cases h <;> exact .of_eq (by simp [startPeriod])
  case setupLineChange high => cases h; exact .of_eq rfl
  case chipSelectAssert =>
    simp only [exec, execChipSelectAssert] at h
    split at h <;> cases h <;> exact .of_eq rfl
  case badRequest code =>
    simp only [exec, execBadRequest] at h
    split at h <;> cases h <;> exact .of_eq rfl
  case configWriteDone =>
    simp only [exec, execConfigWriteDone] at h
    split at h <;> cases h <;> exact .of_eq (by simp)
  case nextEvent =>
    refine serve_rises _ _ _ s t (fun _ => .of_eq ?_) h
    split <;> rfl
  case publishSet z r g b level options => exact serve_rises _ _ _ s t (fun _ => requestByPhase_rises _ s) h
  case publishRecall look options => exact serve_rises _ _ _ s t (fun _ => requestByPhase_rises _ s) h
  case publishOccupy zones => exact serve_rises _ _ _ s t (fun _ => requestOccupy_rises _ _ s) h
  all_goals exact serve_rises _ _ _ s t (fun _ => .of_eq rfl) h

/-- Settles O7: `exec_rises` for the front command, and the passing of time leaves the Zone Store alone. -/
theorem entriesAndClockNeverFall : Obligations.EntriesAndClockNeverFall := by
  unfold Obligations.EntriesAndClockNeverFall
  intro s t h hp
  show Rises s t
  unfold step at h
  split at h
  · cases h
    unfold passTime
    split
    · exact .of_eq rfl
    · exact .refl s
  · next rest _ => exact Rises.trans (t := s.setPending rest) (.of_eq rfl) (exec_rises _ _ t h hp)

end Sys2Proof.Machine
end

section
/-! Own publications: how they are asked for, by phase, and what they do in RUNNING: O16, O14, O15 and O43. -/

namespace Sys2Proof.Machine

open Sys2Proof

/-! ## Requests at the port -/

/-- A PUBLISH_SET in range is answered with what the phase makes of it. -/
theorem exec_publishSet (z r g b level options : Byte) (zone : Zone) (colour : Colour) (lvl : Byte) (fade : FadeCode) (waking : Bool)
    (s : State) (hport : s.port = .opened) (hphase : s.node.phase ≠ .loading)
    (hargs : setArgs z r g b level options = some (zone, colour, lvl, fade, waking)) :
    exec (.publishSet z r g b level options) s =
      .next (answeredWith (requestByPhase (.set zone colour lvl fade waking .port) s).result
        (requestByPhase (.set zone colour lvl fade waking .port) s).state) := by
  simp only [exec, execPublishSet]
  rw [serve_opened _ _ _ _ hport, hargs, screen_served _ _ _ _ (fun h => absurd h hphase) (fun h => absurd h (by decide))
    (fun h => absurd h (by decide))]
  rfl

/-- A PUBLISH_RECALL in range is answered with what the phase makes of it. -/
theorem exec_publishRecall (look options : Byte) (k : Look) (waking : Bool) (s : State) (hport : s.port = .opened)
    (hphase : s.node.phase ≠ .loading) (hargs : recallArgs look options = some (k, waking)) :
    exec (.publishRecall look options) s =
      .next (answeredWith (requestByPhase (.recall k waking .port) s).result (requestByPhase (.recall k waking .port) s).state) := by
  simp only [exec, execPublishRecall]
  rw [serve_opened _ _ _ _ hport, hargs, screen_served _ _ _ _ (fun h => absurd h hphase) (fun h => absurd h (by decide))
    (fun h => absurd h (by decide))]
  rfl

/-- In LOADING every request but STATUS is refused by the phase, whatever its arguments (R184). -/
theorem serve_loading {α : Type} (which : Screening) (arg : Option α) (act : α → State → Served) (s : State) (hport : s.port = .opened)
    (hphase : s.node.phase = .loading) (hs : which.isStatus = false) :
    serve which arg act s = .next (answeredWith .refusedPhase s) := by
  rw [serve_opened _ _ _ _ hport, screen_loading _ _ _ _ hphase hs]
  rfl

/-! ## Holding a request -/

/-- With room a request joins the end of the Held List (R111). -/
theorem appendHeld_room (h : HeldRequest) (s : State) (hr : s.catchUp.held.length < 8) :
    appendHeld h s = { state := s.setCatchUp { s.catchUp with held := s.catchUp.held ++ [h] }, result := .held } :=
  if_pos hr

/-- With 8 held a request is discarded and counted (R111). -/
theorem appendHeld_full (h : HeldRequest) (s : State) (hr : 8 ≤ s.catchUp.held.length) :
    appendHeld h s = { state := countNode .heldDrop s, result := .heldFull } :=
  if_neg (by simpa [heldRoom] using hr)

/-- Every request but an OCCUPY is held in its turn (R112). -/
theorem holdRequest_append (h : HeldRequest) (s : State) (ho : h.isOccupy = false) : holdRequest h s = appendHeld h s := by
  cases h with
  | occupy zones cause => simp [HeldRequest.isOccupy] at ho
  | _ => rfl

theorem requestByPhase_waiting (h : HeldRequest) (s : State) (hp : s.node.phase = .listen ∨ s.node.phase = .catchUp) :
    requestByPhase h s = holdRequest h s := by
  rcases hp with hp | hp <;> simp [requestByPhase, hp]

theorem requestByPhase_refused (h : HeldRequest) (s : State) (hp : s.node.phase = .commission ∨ s.node.phase = .loading) :
    requestByPhase h s = { state := s, result := .refusedPhase } := by
  rcases hp with hp | hp <;> simp [requestByPhase, hp]

theorem requestByPhase_mute (h : HeldRequest) (s : State) (hp : s.node.phase = .mute) :
    requestByPhase h s = { state := s, result := .muted } := by
  simp [requestByPhase, hp]

theorem requestByPhase_running (h : HeldRequest) (s : State) (hp : s.node.phase = .running) :
    requestByPhase h s = answerOf (performHeld h s) := by
  simp [requestByPhase, hp]

/-- In RUNNING, with the asker FINISHED, a request is performed and no more comes of it (R102). -/
theorem requestByPhase_finished (h : HeldRequest) (s : State) (hp : s.node.phase = .running) (ha : s.catchUp.asker = .finished) :
    requestByPhase h s = { state := (performHeld h s).state, result := (performHeld h s).result } := by
  rw [requestByPhase_running h s hp, answerOf, reportLost_other _ _ (by simp [ha])]

/-- Settles O16: both commands reach `requestByPhase`, which answers by the phase. -/
theorem publicationsFollowThePhase : Obligations.PublicationsFollowThePhase := by
  unfold Obligations.PublicationsFollowThePhase
  intro z r g b level fade look waking s hport setCommand recallCommand hold
  have hset (hn : s.node.phase ≠ .loading) := exec_publishSet _ r g b level _ z ⟨r, g, b⟩ level fade waking s hport hn
    (setArgs_spelled z r g b level fade waking)
  have hrecall (hn : s.node.phase ≠ .loading) := exec_publishRecall _ _ look waking s hport hn (recallArgs_spelled look waking)
  refine ⟨fun hp hr => ?_, fun hp hr => ?_, fun hp => ?_, fun hp => ?_⟩
  · have hn : s.node.phase ≠ .loading := by rcases hp with hp | hp <;> simp [hp]
    refine ⟨(hset hn).trans ?_, (hrecall hn).trans ?_⟩ <;>
      rw [requestByPhase_waiting _ s hp, holdRequest_append _ _ rfl, appendHeld_room _ s hr]
  · have hn : s.node.phase ≠ .loading := by rcases hp with hp | hp <;> simp [hp]
    refine ⟨(hset hn).trans ?_, (hrecall hn).trans ?_⟩ <;>
      rw [requestByPhase_waiting _ s hp, holdRequest_append _ _ rfl, appendHeld_full _ s hr]
  · by_cases hn : s.node.phase = .loading
    · exact ⟨serve_loading _ _ _ s hport hn rfl, serve_loading _ _ _ s hport hn rfl⟩
    · refine ⟨(hset hn).trans ?_, (hrecall hn).trans ?_⟩ <;> rw [requestByPhase_refused _ s hp]
  · have hn : s.node.phase ≠ .loading := by simp [hp]
    refine ⟨(hset hn).trans ?_, (hrecall hn).trans ?_⟩ <;> rw [requestByPhase_mute _ s hp]

/-! ## The new stamp -/

/-- The clock advanced to the stamp of an own publication (R6). -/
def withNewStamp (s : State) : State := s.setZoneStore { s.zoneStore with clock := s.zoneStore.clock + 1 }

/-- The flag that a publication leaves with the clock at its end (R6). -/
def withExhausted (s : State) : State := s.setZoneStore { s.zoneStore with exhausted := true }

theorem takeStamp_fresh (s : State) (h : s.zoneStore.clock ≠ maxWord) : takeStamp s = (some (s.zoneStore.clock + 1), withNewStamp s) :=
  if_neg h

theorem takeStamp_exhausted (s : State) (h : s.zoneStore.clock = maxWord) : takeStamp s = (none, withExhausted s) := if_pos h

/-- Below its end the clock's next value is one higher. -/
theorem newStamp_toNat (c : Word32) (h : c ≠ maxWord) : (c + 1).toNat = c.toNat + 1 := by
  simp only [maxWord] at h
  bv_omega

/-- A setting with the new stamp is higher than what any entry holds. -/
theorem replaces_newStamp (s : State) (hs : ClockSound s) (hc : s.zoneStore.clock ≠ maxWord) (z : Zone) (x : Setting)
    (hx : x.stamp = s.zoneStore.clock + 1) : replaces s.zoneStore.table[z] x = true := by
  cases he : s.zoneStore.table[z] with
  | none => rfl
  | some e =>
    have hle := hs.1 z e he
    have hst := newStamp_toNat _ hc
    rw [replaces, higher_iff, hx]
    omega

/-- With the clock at the stamp a merge does not move it. -/
theorem merge_zoneStore_atStamp (z : Zone) (x : Setting) (s : State) (hx : x.stamp = s.zoneStore.clock) :
    (merge z x s).zoneStore = { s.zoneStore with table := update s.zoneStore.table z (mergedEntry s.zoneStore.table[z] x) } := by
  rw [merge_zoneStore, raiseClock, hx, if_neg (by omega)]

/-! ## ZONE_CHANGED -/

@[simp] theorem countAt_zoneChanged (i : Fin 28) (s : State) :
    (countAt i s).events.records.zoneChanged = s.events.records.zoneChanged := by
  rw [countAt_events]

@[simp] theorem countNode_zoneChanged (c : NodeCounter) (s : State) :
    (countNode c s).events.records.zoneChanged = s.events.records.zoneChanged := countAt_zoneChanged _ s

@[simp] theorem changeOccupancy_zoneChanged (z : Zone) (r : OccupancyRecord) (s : State) :
    (changeOccupancy z r s).events.records.zoneChanged = s.events.records.zoneChanged := by
  rw [changeOccupancy_events]

@[simp] theorem wake_zoneChanged (cause : WakeCause) (z : Zone) (s : State) :
    (wake cause z s).events.records.zoneChanged = s.events.records.zoneChanged := by
  unfold wake
  dsimp only
  split <;> simp

@[simp] theorem wakeAll_zoneChanged (cause : WakeCause) (zones : List Zone) (s : State) :
    (wakeAll cause zones s).events.records.zoneChanged = s.events.records.zoneChanged :=
  foldl_keep (fun s : State => s.events.records.zoneChanged) _ (fun s z => wake_zoneChanged cause z s) zones s

@[simp] theorem dropRecord_zoneChanged (s : State) : (dropRecord s).events.records.zoneChanged = s.events.records.zoneChanged := by
  simp [dropRecord, EventRecords.add]

@[simp] theorem offerRecord_zoneChanged (p : Payload) (stamp : Word32) (s : State) :
    (offerRecord p stamp s).state.events.records.zoneChanged = s.events.records.zoneChanged := by
  unfold offerRecord
  dsimp only
  (repeat' split) <;> simp

/-- A merge that replaces the entry raises ZONE_CHANGED for its zone. -/
theorem merge_zoneChanged (z : Zone) (x : Setting) (s : State) (h : replaces s.zoneStore.table[z] x = true) :
    (merge z x s).events.records.zoneChanged = andOne s.events.records.zoneChanged z := by
  rw [merge_replaces z x s h, replaceEntry_events]
  simp

/-! ## A SET performed -/

/-- The setting that an own SET merges (R20). -/
def ownSetting (colour : Colour) (level : Byte) (fade : FadeCode) (s : State) : Setting :=
  { colour := colour, level := level, fade := fade, stamp := s.zoneStore.clock + 1, origin := ownStation s, source := .set }

/-- An own SET up to the offer of its record: stamp, merge and wake (R20). -/
def applySet (z : Zone) (colour : Colour) (level : Byte) (fade : FadeCode) (waking : Bool) (cause : WakeCause) (s : State) : State :=
  let merged := merge z (ownSetting colour level fade s) (withNewStamp s)
  if waking then wake cause z merged else merged

theorem performSet_fresh (z : Zone) (colour : Colour) (level : Byte) (fade : FadeCode) (waking : Bool) (cause : WakeCause) (s : State)
    (h : s.zoneStore.clock ≠ maxWord) :
    performSet z colour level fade waking cause s =
      publishedBy (offerRecord (.set z colour level fade waking) (s.zoneStore.clock + 1) (applySet z colour level fade waking cause s)) := by
  unfold performSet
  rw [takeStamp_fresh s h]
  rfl

theorem performSet_exhausted (z : Zone) (colour : Colour) (level : Byte) (fade : FadeCode) (waking : Bool) (cause : WakeCause) (s : State)
    (h : s.zoneStore.clock = maxWord) :
    performSet z colour level fade waking cause s = { state := withExhausted s, result := .clockExhausted, lostAsk := false } := by
  unfold performSet
  rw [takeStamp_exhausted s h]

section
variable (z : Zone) (colour : Colour) (level : Byte) (fade : FadeCode) (waking : Bool) (cause : WakeCause) (s : State)

/-- What `applySet` leaves as it was. -/
@[simp] theorem applySet_frame :
    (applySet z colour level fade waking cause s).pins = s.pins ∧ (applySet z colour level fade waking cause s).lanes = s.lanes ∧
    (applySet z colour level fade waking cause s).tx = s.tx ∧ (applySet z colour level fade waking cause s).node = s.node := by
  cases waking <;> simp [applySet, withNewStamp]

/-- The new setting takes its entry. -/
theorem applySet_zoneStore (hs : ClockSound s) (hc : s.zoneStore.clock ≠ maxWord) :
    (applySet z colour level fade waking cause s).zoneStore =
      { s.zoneStore with clock := s.zoneStore.clock + 1,
                         table := update s.zoneStore.table z (some (ownSetting colour level fade s)) } := by
  have hm : (applySet z colour level fade waking cause s).zoneStore =
      (merge z (ownSetting colour level fade s) (withNewStamp s)).zoneStore := by
    cases waking <;> simp [applySet]
  rw [hm, merge_zoneStore_atStamp _ _ _ rfl, mergedEntry]
  have hr := replaces_newStamp s hs hc z (ownSetting colour level fade s) rfl
  rw [if_pos (by simpa [withNewStamp] using hr)]
  rfl

theorem applySet_zoneChanged (hs : ClockSound s) (hc : s.zoneStore.clock ≠ maxWord) :
    (applySet z colour level fade waking cause s).events.records.zoneChanged = andOne s.events.records.zoneChanged z := by
  have hm := merge_zoneChanged z (ownSetting colour level fade s) (withNewStamp s) (replaces_newStamp s hs hc z _ rfl)
  cases waking
  · exact hm
  · exact (wake_zoneChanged _ _ _).trans hm

/-- A wake flag wakes the zone. -/
theorem applySet_occupancy :
    (applySet z colour level fade waking cause s).occupancy =
      if waking = true then { s.occupancy with records := update s.occupancy.records z (wokenRecord cause z s) } else s.occupancy := by
  have hm : (merge z (ownSetting colour level fade s) (withNewStamp s)).occupancy = s.occupancy := by simp [withNewStamp]
  cases waking
  · exact hm
  · rw [applySet]
    simp only [if_true]
    rw [wake_occupancy, wokenRecord_congr cause z _ _ hm, hm]

/-- A performed SET's record is offered to the queue as it was before. -/
theorem performSet_offer (hc : s.zoneStore.clock ≠ maxWord) :
    (performSet z colour level fade waking cause s).result =
        (offerRecord (.set z colour level fade waking) (s.zoneStore.clock + 1) s).outcome.result ∧
      (performSet z colour level fade waking cause s).state.tx =
        (offerRecord (.set z colour level fade waking) (s.zoneStore.clock + 1) s).state.tx := by
  obtain ⟨hp, hl, ht, hn⟩ := applySet_frame z colour level fade waking cause s
  obtain ⟨ho, -, hx⟩ := offerRecord_congr (.set z colour level fade waking) (s.zoneStore.clock + 1) s _ hp hl ht (by rw [hn])
  rw [performSet_fresh _ _ _ _ _ _ s hc]
  exact ⟨by rw [publishedBy, ho], hx⟩

theorem performSet_zoneStore (hs : ClockSound s) (hc : s.zoneStore.clock ≠ maxWord) :
    (performSet z colour level fade waking cause s).state.zoneStore =
      { s.zoneStore with clock := s.zoneStore.clock + 1,
                         table := update s.zoneStore.table z (some (ownSetting colour level fade s)) } := by
  rw [performSet_fresh _ _ _ _ _ _ s hc, publishedBy, ← applySet_zoneStore z colour level fade waking cause s hs hc]
  simp

theorem performSet_occupancy (hc : s.zoneStore.clock ≠ maxWord) :
    (performSet z colour level fade waking cause s).state.occupancy =
      if waking = true then { s.occupancy with records := update s.occupancy.records z (wokenRecord cause z s) } else s.occupancy := by
  rw [performSet_fresh _ _ _ _ _ _ s hc, publishedBy, ← applySet_occupancy z colour level fade waking cause s]
  simp

theorem performSet_zoneChanged (hs : ClockSound s) (hc : s.zoneStore.clock ≠ maxWord) :
    (performSet z colour level fade waking cause s).state.events.records.zoneChanged = andOne s.events.records.zoneChanged z := by
  rw [performSet_fresh _ _ _ _ _ _ s hc, publishedBy, ← applySet_zoneChanged z colour level fade waking cause s hs hc]
  simp

/-- A performed SET touches the Zone Store, the heads, the Occupancy Unit, the queue, the counters and the events alone. -/
theorem performSet_changes :
    (performSet z colour level fade waking cause s).state =
      { s with zoneStore := (performSet z colour level fade waking cause s).state.zoneStore,
               heads := (performSet z colour level fade waking cause s).state.heads,
               occupancy := (performSet z colour level fade waking cause s).state.occupancy,
               tx := (performSet z colour level fade waking cause s).state.tx,
               counters := (performSet z colour level fade waking cause s).state.counters,
               events := (performSet z colour level fade waking cause s).state.events } := by
  apply State.eq_of_fields <;> simp

end

/-- Settles O14: the request is performed as `performSet`, whose parts are the lemmas above. -/
theorem publishSetPerforms : Obligations.PublishSetPerforms := by
  unfold Obligations.PublishSetPerforms
  have hargs (z : Zone) (r g b level options : Byte) (s : State) (hport : s.port = .opened) (hrun : s.node.phase = .running)
      (ho : options &&& 0xE0#8 = 0) := exec_publishSet _ r g b level options z ⟨r, g, b⟩ level _ _ s hport (by simp [hrun])
    (setArgs_inRange z r g b level options ho)
  refine ⟨fun z r g b level options s hport hrun hask hs ho hc => ?_, fun z r g b level options s hport hrun ho hc => ?_⟩
  · intro fade waking stamp x offer
    have hx := hargs z r g b level options s hport hrun ho
    rw [requestByPhase_finished _ s hrun hask] at hx
    obtain ⟨hres, htx⟩ := performSet_offer z ⟨r, g, b⟩ level fade waking .port s hc
    refine ⟨_, hx, performSet_zoneStore z ⟨r, g, b⟩ level fade waking .port s hs hc,
      performSet_zoneChanged z ⟨r, g, b⟩ level fade waking .port s hs hc, ?_, fun z' => ?_, htx, ?_, ?_⟩
    · have hocc := performSet_occupancy z ⟨r, g, b⟩ level fade waking .port s hc
      refine (congrArg OccupancyUnit.config hocc).trans ?_
      split <;> rfl
    · have hocc := performSet_occupancy z ⟨r, g, b⟩ level fade waking .port s hc
      refine (congrArg (fun o : OccupancyUnit => o.records[z']) hocc).trans ?_
      by_cases hw : waking = true
      · simp only [hw, and_true, if_true]
        exact update_get _ _ _ _
      · simp [hw]
    · exact congrArg (fun c : ResultCode => Transaction.answered [c.byte] false) hres
    · exact congrArg (State.setPort · _) (performSet_changes z ⟨r, g, b⟩ level fade waking .port s)
  · rw [hargs z r g b level options s hport hrun ho, requestByPhase_running _ s hrun, performHeld, performSet_exhausted _ _ _ _ _ _ s hc]
    rfl

end Sys2Proof.Machine
end

section
/-! A look performed, and what the inputs ask for: O15 and O43. -/

namespace Sys2Proof.Machine

open Sys2Proof

/-! ## Merging the settings of a look -/

/-- The setting that a look gives a zone it lists (R13, R21). -/
def lookSetting (look : Look) (stamp : Word32) (origin : Station) (p : PoolSetting) : Setting :=
  { colour := p.colour, level := p.level, fade := p.fade, stamp := stamp, origin := origin, source := .recall look }

theorem mergeLook_eq_foldl (look : Look) (stamp : Word32) (origin : Station) (s : State) :
    mergeLook look stamp origin s =
      (lookSettings s.zoneStore look).foldl (fun s p => merge p.zone (lookSetting look stamp origin p) s) s := rfl

/-- A zone that the look does not list keeps its entry. -/
theorem mergeLook_other (look : Look) (stamp : Word32) (origin : Station) (s : State) (z : Zone) (h : z ∉ lookZones s.zoneStore look) :
    (mergeLook look stamp origin s).zoneStore.table[z] = s.zoneStore.table[z] :=
  mergeFold_other _ (lookSetting look stamp origin) s z h

/-- A zone that the look lists once takes the merge of its setting. -/
theorem mergeLook_listed (look : Look) (stamp : Word32) (origin : Station) (s : State) (hn : (lookZones s.zoneStore look).Nodup)
    (p : PoolSetting) (hp : p ∈ lookSettings s.zoneStore look) :
    (mergeLook look stamp origin s).zoneStore.table[p.zone] =
      mergedEntry s.zoneStore.table[p.zone] (lookSetting look stamp origin p) :=
  mergeFold_listed _ (lookSetting look stamp origin) s hn p hp

/-- With the clock at the stamp of every setting, merges move the table alone. -/
theorem mergeFold_tableOnly (l : List PoolSetting) (make : PoolSetting → Setting) (s : State)
    (h : ∀ p, (make p).stamp = s.zoneStore.clock) :
    (l.foldl (fun s p => merge p.zone (make p) s) s).zoneStore =
      { s.zoneStore with table := (l.foldl (fun s p => merge p.zone (make p) s) s).zoneStore.table } := by
  refine foldl_inv (fun u : State => u.zoneStore = { s.zoneStore with table := u.zoneStore.table }) _ (fun u p hu => ?_) l s rfl
  have hst : (make p).stamp = u.zoneStore.clock := by rw [hu, h]
  rw [merge_zoneStore_atStamp _ _ _ hst, hu]

/-- Merges that all replace their entries raise ZONE_CHANGED for their zones, and for no other. -/
theorem mergeFold_zoneChanged (l : List PoolSetting) (make : PoolSetting → Setting) (s : State) (hn : (l.map (fun p => p.zone)).Nodup)
    (hr : ∀ p ∈ l, replaces s.zoneStore.table[p.zone] (make p) = true) (z : Zone) :
    inSet ((l.foldl (fun s p => merge p.zone (make p) s) s).events.records.zoneChanged.getD 0) z =
      (inSet (s.events.records.zoneChanged.getD 0) z || decide (z ∈ l.map (fun p => p.zone))) := by
  induction l generalizing s with
  | nil => simp
  | cons a l ih =>
    simp only [List.map_cons, List.nodup_cons] at hn
    have hkeep (p : PoolSetting) (hp : p ∈ l) : replaces (merge a.zone (make a) s).zoneStore.table[p.zone] (make p) = true := by
      have hne : p.zone ≠ a.zone := fun he => hn.1 (he ▸ List.mem_map_of_mem hp)
      rw [merge_table, if_neg hne]
      exact hr p (List.mem_cons_of_mem a hp)
    rw [List.foldl_cons, ih _ hn.2 hkeep, merge_zoneChanged _ _ _ (hr a List.mem_cons_self), andOne, Option.getD_some, inSet_or,
      oneOf_inSet]
    simp only [List.map_cons, List.mem_cons, Bool.decide_or, Bool.or_assoc]

/-! ## A RECALL performed -/

/-- An own RECALL up to the offer of its record: stamp, merges and wakes (R21). -/
def applyRecall (look : Look) (waking : Bool) (cause : WakeCause) (s : State) : State :=
  let merged := mergeLook look (s.zoneStore.clock + 1) (ownStation s) (withNewStamp s)
  if waking then wakeAll cause (lookZones s.zoneStore look) merged else merged

section
variable (look : Look) (waking : Bool) (cause : WakeCause) (s : State)

theorem performRecall_undefined (hl : lookSettings s.zoneStore look = []) :
    performRecall look waking cause s = { state := s, result := .lookUndefined, lostAsk := false } := by
  simp [performRecall, hl]

theorem performRecall_exhausted (hl : lookSettings s.zoneStore look ≠ []) (hc : s.zoneStore.clock = maxWord) :
    performRecall look waking cause s = { state := withExhausted s, result := .clockExhausted, lostAsk := false } := by
  unfold performRecall
  rw [if_neg (by simpa using hl), takeStamp_exhausted s hc]

theorem performRecall_fresh (hl : lookSettings s.zoneStore look ≠ []) (hc : s.zoneStore.clock ≠ maxWord) :
    performRecall look waking cause s =
      publishedBy (offerRecord (.recall look (s.zoneStore.checksum.getD 0) waking) (s.zoneStore.clock + 1)
        (applyRecall look waking cause s)) := by
  unfold performRecall
  rw [if_neg (by simpa using hl), takeStamp_fresh s hc]
  rfl

/-- What `applyRecall` leaves as it was. -/
@[simp] theorem applyRecall_frame :
    (applyRecall look waking cause s).pins = s.pins ∧ (applyRecall look waking cause s).lanes = s.lanes ∧
    (applyRecall look waking cause s).tx = s.tx ∧ (applyRecall look waking cause s).node = s.node := by
  cases waking <;> simp [applyRecall, withNewStamp]

/-- The wakes leave the Zone Store as the merges made it. -/
theorem applyRecall_zoneStore :
    (applyRecall look waking cause s).zoneStore =
      (mergeLook look (s.zoneStore.clock + 1) (ownStation s) (withNewStamp s)).zoneStore := by
  cases waking <;> simp [applyRecall]

theorem performRecall_zoneStore (hl : lookSettings s.zoneStore look ≠ []) (hc : s.zoneStore.clock ≠ maxWord) :
    (performRecall look waking cause s).state.zoneStore =
      (mergeLook look (s.zoneStore.clock + 1) (ownStation s) (withNewStamp s)).zoneStore := by
  rw [performRecall_fresh _ _ _ s hl hc, publishedBy, ← applyRecall_zoneStore look waking cause s]
  simp

/-- A RECALL performed moves clock and table, and nothing else of the Zone Store. -/
theorem performRecall_tableOnly (hl : lookSettings s.zoneStore look ≠ []) (hc : s.zoneStore.clock ≠ maxWord) :
    (performRecall look waking cause s).state.zoneStore =
      { s.zoneStore with clock := s.zoneStore.clock + 1, table := (performRecall look waking cause s).state.zoneStore.table } := by
  rw [performRecall_zoneStore look waking cause s hl hc, mergeLook_eq_foldl]
  exact mergeFold_tableOnly _ (lookSetting look (s.zoneStore.clock + 1) (ownStation s)) (withNewStamp s) (fun _ => rfl)

/-- Every setting of the look takes its zone's entry. -/
theorem performRecall_listed (hl : lookSettings s.zoneStore look ≠ []) (hc : s.zoneStore.clock ≠ maxWord) (hs : ClockSound s)
    (hn : (lookZones s.zoneStore look).Nodup) (p : PoolSetting) (hp : p ∈ lookSettings s.zoneStore look) :
    (performRecall look waking cause s).state.zoneStore.table[p.zone] =
      some (lookSetting look (s.zoneStore.clock + 1) (ownStation s) p) := by
  rw [performRecall_zoneStore look waking cause s hl hc, mergeLook_listed look _ _ (withNewStamp s) hn p hp, mergedEntry]
  exact if_pos (replaces_newStamp s hs hc p.zone _ rfl)

theorem performRecall_other (hl : lookSettings s.zoneStore look ≠ []) (hc : s.zoneStore.clock ≠ maxWord) (z : Zone)
    (hz : z ∉ lookZones s.zoneStore look) :
    (performRecall look waking cause s).state.zoneStore.table[z] = s.zoneStore.table[z] := by
  rw [performRecall_zoneStore look waking cause s hl hc]
  exact mergeLook_other look _ _ (withNewStamp s) z hz

theorem performRecall_zoneChanged (hl : lookSettings s.zoneStore look ≠ []) (hc : s.zoneStore.clock ≠ maxWord) (hs : ClockSound s)
    (hn : (lookZones s.zoneStore look).Nodup) (z : Zone) :
    inSet ((performRecall look waking cause s).state.events.records.zoneChanged.getD 0) z =
      (inSet (s.events.records.zoneChanged.getD 0) z || decide (z ∈ lookZones s.zoneStore look)) := by
  have hw : (applyRecall look waking cause s).events.records.zoneChanged =
      (mergeLook look (s.zoneStore.clock + 1) (ownStation s) (withNewStamp s)).events.records.zoneChanged := by
    cases waking <;> simp [applyRecall]
  rw [performRecall_fresh _ _ _ s hl hc, publishedBy, offerRecord_zoneChanged, hw, mergeLook_eq_foldl]
  exact mergeFold_zoneChanged _ (lookSetting look (s.zoneStore.clock + 1) (ownStation s)) (withNewStamp s) hn
    (fun p _ => replaces_newStamp s hs hc p.zone _ rfl) z

/-- A wake flag wakes every zone of the look. -/
theorem performRecall_record (hl : lookSettings s.zoneStore look ≠ []) (hc : s.zoneStore.clock ≠ maxWord) (z : Zone) :
    (performRecall look waking cause s).state.occupancy.records[z] =
      if z ∈ lookZones s.zoneStore look ∧ waking = true then wokenRecord cause z s else s.occupancy.records[z] := by
  have hm : (mergeLook look (s.zoneStore.clock + 1) (ownStation s) (withNewStamp s)).occupancy = s.occupancy := by simp [withNewStamp]
  have ho : (performRecall look waking cause s).state.occupancy = (applyRecall look waking cause s).occupancy := by
    rw [performRecall_fresh _ _ _ s hl hc, publishedBy]
    simp
  rw [ho]
  cases waking
  · simp [applyRecall, withNewStamp]
  · simp only [applyRecall, if_true, and_true]
    rw [wakeAll_record, wokenRecord_congr cause z _ _ hm, hm]

/-- A performed RECALL's record is offered to the queue as it was before. -/
theorem performRecall_offer (hl : lookSettings s.zoneStore look ≠ []) (hc : s.zoneStore.clock ≠ maxWord) :
    (performRecall look waking cause s).result =
        (offerRecord (.recall look (s.zoneStore.checksum.getD 0) waking) (s.zoneStore.clock + 1) s).outcome.result ∧
      (performRecall look waking cause s).state.tx =
        (offerRecord (.recall look (s.zoneStore.checksum.getD 0) waking) (s.zoneStore.clock + 1) s).state.tx := by
  obtain ⟨hp, hl', ht, hn⟩ := applyRecall_frame look waking cause s
  obtain ⟨ho, -, hx⟩ :=
    offerRecord_congr (.recall look (s.zoneStore.checksum.getD 0) waking) (s.zoneStore.clock + 1) s _ hp hl' ht (by rw [hn])
  rw [performRecall_fresh _ _ _ s hl hc]
  exact ⟨by rw [publishedBy, ho], hx⟩

/-- A performed RECALL touches the Zone Store, the heads, the Occupancy Unit, the queue, the counters and the events alone. -/
theorem performRecall_changes :
    (performRecall look waking cause s).state =
      { s with zoneStore := (performRecall look waking cause s).state.zoneStore,
               heads := (performRecall look waking cause s).state.heads,
               occupancy := (performRecall look waking cause s).state.occupancy,
               tx := (performRecall look waking cause s).state.tx,
               counters := (performRecall look waking cause s).state.counters,
               events := (performRecall look waking cause s).state.events } := by
  apply State.eq_of_fields <;> simp

end

/-- Settles O15: the request is performed as `performRecall`, whose parts are the lemmas above. -/
theorem publishRecallPerforms : Obligations.PublishRecallPerforms := by
  unfold Obligations.PublishRecallPerforms
  intro look waking s hport hrun hask hs options command
  have hx := exec_publishRecall _ options look waking s hport (by simp [hrun]) (recallArgs_spelled look waking)
  rw [requestByPhase_finished _ s hrun hask, performHeld] at hx
  refine ⟨fun hl => ?_, fun hl hc => ?_, fun hl hn hc => ?_⟩
  · rw [performRecall_undefined _ _ _ s hl] at hx
    exact hx
  · rw [performRecall_exhausted _ _ _ s hl hc] at hx
    exact hx
  · intro stamp offer
    obtain ⟨hres, htx⟩ := performRecall_offer look waking .port s hl hc
    exact ⟨_, hx, performRecall_tableOnly look waking .port s hl hc, performRecall_listed look waking .port s hl hc hs hn,
      performRecall_other look waking .port s hl hc, performRecall_zoneChanged look waking .port s hl hc hs hn,
      performRecall_record look waking .port s hl hc, htx, congrArg (fun c : ResultCode => Transaction.answered [c.byte] false) hres,
      congrArg (State.setPort · _) (performRecall_changes look waking .port s)⟩

/-! ## What an input asks for -/

/-- REPEAT_EXPIRY of a running timer: the timer restarts and the input's request is made again (R142). -/
theorem exec_repeatExpiry (line : Line) (s : State) (h : s.inputs.records[line].repeating ≠ .stopped) :
    exec (.repeatExpiry line) s = .next (repeatInput line (expiryOf s.inputs.records[line].repeating s)) :=
  if_pos (Timer.isRunning_of_ne h)

/-- REFRESH_EXPIRY of a running timer: the timer restarts and the OCCUPY request is made again (R139). -/
theorem exec_refreshExpiry (line : Line) (s : State) (h : s.inputs.records[line].refresh ≠ .stopped) :
    exec (.refreshExpiry line) s = .next (refreshInput line (expiryOf s.inputs.records[line].refresh s)) :=
  if_pos (Timer.isRunning_of_ne h)

theorem members_oneOf (z : Zone) : members (oneOf z) = [z] := by
  revert z
  decide +kernel

/-- The wake of a set of one zone is the wake of the zone. -/
theorem wakeSet_oneOf (cause : WakeCause) (z : Zone) (s : State) : wakeSet cause (oneOf z) s = wake cause z s := by
  rw [wakeSet, members_oneOf]
  rfl

section
variable (zones : ZoneSet) (cause : WakeCause) (s : State)

theorem requestOccupy_waiting (hp : s.node.phase = .listen ∨ s.node.phase = .catchUp) :
    requestOccupy zones cause s = holdRequest (.occupy zones cause) (wakeSet cause zones s) := by
  rcases hp with hp | hp <;> simp [requestOccupy, hp]

theorem requestOccupy_refused (hp : s.node.phase = .commission ∨ s.node.phase = .loading) :
    requestOccupy zones cause s = { state := s, result := .refusedPhase } := by
  rcases hp with hp | hp <;> simp [requestOccupy, hp]

theorem requestOccupy_mute (hp : s.node.phase = .mute) :
    requestOccupy zones cause s = { state := wakeSet cause zones s, result := .muted } := by
  simp [requestOccupy, hp]

/-- In RUNNING, with the asker FINISHED, an OCCUPY is performed and no more comes of it (R102). -/
theorem requestOccupy_finished (hp : s.node.phase = .running) (ha : s.catchUp.asker = .finished) :
    requestOccupy zones cause s = { state := (performOccupy zones cause s).state, result := (performOccupy zones cause s).result } := by
  have hr : requestOccupy zones cause s = answerOf (performOccupy zones cause s) := by simp [requestOccupy, hp]
  rw [hr, answerOf, reportLost_other _ _ (by simp [ha])]

/-- A performed OCCUPY's record is offered, with the clock as its stamp, to the queue as it was before. -/
theorem performOccupy_tx :
    (performOccupy zones cause s).state.tx = (offerRecord (.occupy zones) s.zoneStore.clock s).state.tx := by
  have hc : (wakeSet cause zones s).zoneStore.clock = s.zoneStore.clock := by simp
  rw [performOccupy, publishedBy]
  dsimp only
  rw [hc]
  exact (offerRecord_congr _ _ s _ (by simp) (by simp) (by simp) (by simp)).2.2

/-- A performed OCCUPY touches the Occupancy Unit, the heads, the queue, the counters and the events alone. -/
theorem performOccupy_changes :
    (performOccupy zones cause s).state =
      { s with occupancy := (performOccupy zones cause s).state.occupancy, heads := (performOccupy zones cause s).state.heads,
               tx := (performOccupy zones cause s).state.tx, counters := (performOccupy zones cause s).state.counters,
               events := (performOccupy zones cause s).state.events } := by
  apply State.eq_of_fields <;> simp [performOccupy_zoneStore]

/-- An OCCUPY of one zone replaces the zone's record. -/
theorem performOccupy_oneOf (z : Zone) :
    (performOccupy (oneOf z) cause s).state.occupancy =
      { s.occupancy with records := update s.occupancy.records z (wokenRecord cause z s) } := by
  rw [← wake_occupancy, ← wakeSet_oneOf]
  simp [performOccupy, publishedBy]

end

/-- A request that is held in its turn, and never announced by OCCUPY, goes by the phase. -/
theorem requestByPhase_state (h : HeldRequest) (s : State) (ho : h.isOccupy = false) :
    ((s.node.phase = .listen ∨ s.node.phase = .catchUp) →
      (requestByPhase h s).state =
        (if s.catchUp.held.length < 8 then s.setCatchUp { s.catchUp with held := s.catchUp.held ++ [h] } else countNode .heldDrop s)) ∧
    ((s.node.phase = .mute ∨ s.node.phase = .commission ∨ s.node.phase = .loading) → (requestByPhase h s).state = s) := by
  refine ⟨fun hp => ?_, fun hp => ?_⟩
  · rw [requestByPhase_waiting h s hp, holdRequest_append h s ho]
    by_cases hr : s.catchUp.held.length < 8
    · rw [appendHeld_room h s hr, if_pos hr]
    · rw [appendHeld_full h s (by omega), if_neg hr]
  · rcases hp with hp | hp
    · rw [requestByPhase_mute h s hp]
    · rw [requestByPhase_refused h s hp]

/-- Settles O43: repeats and refreshes reach the requests, which go by the phase and are performed in RUNNING. -/
theorem repeatsAndRefreshesAskAgain : Obligations.RepeatsAndRefreshesAskAgain := by
  unfold Obligations.RepeatsAndRefreshesAskAgain
  refine ⟨?again, ?actions, ?byPhase, ?running, ?occupies⟩
  case again =>
    intro line s again r
    refine ⟨fun a z n hk hr => ?_, fun z hk hr => ?_⟩
    · rw [exec_repeatExpiry line s hr, repeatInput]
      have hk' : (expiryOf s.inputs.records[line].repeating s).inputs.config[line].kind = .action a z n := hk
      rw [hk']
      rfl
    · rw [exec_refreshExpiry line s hr, refreshInput]
      have hk' : (expiryOf s.inputs.records[line].refresh s).inputs.config[line].kind = .sensor z := hk
      rw [hk']
      rfl
  case actions =>
    intro z n s shown d
    exact ⟨rfl, rfl, rfl, rfl⟩
  case byPhase =>
    rintro h s (⟨a, z, n, rfl⟩ | ⟨look, rfl⟩)
    · exact requestByPhase_state _ s rfl
    · exact requestByPhase_state _ s rfl
  case running =>
    intro s hrun hask stamp exhausted
    refine ⟨fun a z n => ?_, fun z colour level fade => ?_, fun look => ?_⟩
    · rw [requestByPhase_finished _ s hrun hask, performHeld]
    · intro done x
      refine ⟨fun hc => ?_, fun hc hs => ?_⟩
      · exact congrArg Published.state (performSet_exhausted z colour level fade true .switch s hc)
      · exact ⟨performSet_zoneStore z colour level fade true .switch s hs hc, performSet_occupancy z colour level fade true .switch s hc,
          (performSet_offer z colour level fade true .switch s hc).2, performSet_changes z colour level fade true .switch s⟩
    · intro done
      have hd : done = (performRecall look true .switch s).state :=
        congrArg Answer.state (requestByPhase_finished (.recall look true .switch) s hrun hask)
      rw [hd]
      refine ⟨fun hl => ?_, fun hl hc => ?_, fun hl hc hs hn => ?_⟩
      · rw [performRecall_undefined look true .switch s hl]
      · exact congrArg Published.state (performRecall_exhausted look true .switch s hl hc)
      · exact ⟨performRecall_tableOnly look true .switch s hl hc, performRecall_listed look true .switch s hl hc hs hn,
          performRecall_other look true .switch s hl hc, fun z => by simpa using performRecall_record look true .switch s hl hc z,
          (performRecall_offer look true .switch s hl hc).2, performRecall_changes look true .switch s⟩
  case occupies =>
    intro z s asked
    refine ⟨fun hrun hask => ?_, fun hp => ?_, fun hp => ?_, fun hp => ?_⟩
    · have hd : asked = (performOccupy (oneOf z) .localSensor s).state :=
        congrArg Answer.state (requestOccupy_finished (oneOf z) .localSensor s hrun hask)
      rw [hd]
      exact ⟨performOccupy_oneOf .localSensor s z, performOccupy_tx (oneOf z) .localSensor s,
        performOccupy_changes (oneOf z) .localSensor s⟩
    · rw [← wakeSet_oneOf, ← requestOccupy_waiting (oneOf z) .localSensor s hp]
    · rw [← wakeSet_oneOf]
      exact congrArg Answer.state (requestOccupy_mute (oneOf z) .localSensor s hp)
    · exact congrArg Answer.state (requestOccupy_refused (oneOf z) .localSensor s hp)

end Sys2Proof.Machine
end

section
/-! Accepted frames of peers: what FRAME_RECEIVED comes to, and what SET, OCCUPY, RECALL, SYNC_ASK and SYNC_ENTRY do: O21, O22 and O35. -/

namespace Sys2Proof.Machine

open Sys2Proof

/-! ## States alike to the handlers -/

/-- The entries of a SYNC_ENTRY merged in order (R15). -/
def mergeEntries (entries : List SyncEntry) (s : State) : State := entries.foldl (fun s e => merge e.zone e.setting s) s

theorem acceptEntries_eq (entries : List SyncEntry) (s : State) :
    acceptEntries entries s = strikeAnswers entries (mergeEntries entries s) := rfl

/-- `t` has all that the handlers of accepted frames read of `s` and change in it: the two may differ in the lanes, the filter, the peers, the counters of the lanes and of restarts, and other events. -/
structure Alike (s t : State) : Prop where
  zoneStore : t.zoneStore = s.zoneStore
  heads : t.heads = s.heads
  occupancy : t.occupancy = s.occupancy
  catchUp : t.catchUp = s.catchUp
  tx : t.tx = s.tx
  node : t.node = s.node
  zoneChanged : t.events.records.zoneChanged = s.events.records.zoneChanged
  occupancyChanged : t.events.records.occupancyChanged = s.events.records.occupancyChanged
  counts : ∀ c : NodeCounter, c ≠ .peerRestart → t.counters.live[nodeIndex c] = s.counters.live[nodeIndex c]

namespace Alike

theorem refl (s : State) : Alike s s := ⟨rfl, rfl, rfl, rfl, rfl, rfl, rfl, rfl, fun _ _ => rfl⟩

theorem trans {s t u : State} (h : Alike s t) (h' : Alike t u) : Alike s u where
  zoneStore := h'.zoneStore.trans h.zoneStore
  heads := h'.heads.trans h.heads
  occupancy := h'.occupancy.trans h.occupancy
  catchUp := h'.catchUp.trans h.catchUp
  tx := h'.tx.trans h.tx
  node := h'.node.trans h.node
  zoneChanged := h'.zoneChanged.trans h.zoneChanged
  occupancyChanged := h'.occupancyChanged.trans h.occupancyChanged
  counts := fun c hc => (h'.counts c hc).trans (h.counts c hc)

variable {s t : State}

/-! The same block written on both sides, the same event raised, the same counter counted. -/

theorem setZoneStore (h : Alike s t) (x : ZoneStore) : Alike (s.setZoneStore x) (t.setZoneStore x) :=
  ⟨rfl, h.heads, h.occupancy, h.catchUp, h.tx, h.node, h.zoneChanged, h.occupancyChanged, h.counts⟩

theorem setHeads (h : Alike s t) (x : HeadUnit) : Alike (s.setHeads x) (t.setHeads x) :=
  ⟨h.zoneStore, rfl, h.occupancy, h.catchUp, h.tx, h.node, h.zoneChanged, h.occupancyChanged, h.counts⟩

theorem setOccupancy (h : Alike s t) (x : OccupancyUnit) : Alike (s.setOccupancy x) (t.setOccupancy x) :=
  ⟨h.zoneStore, h.heads, rfl, h.catchUp, h.tx, h.node, h.zoneChanged, h.occupancyChanged, h.counts⟩

theorem setCatchUp (h : Alike s t) (x : CatchUpUnit) : Alike (s.setCatchUp x) (t.setCatchUp x) :=
  ⟨h.zoneStore, h.heads, h.occupancy, rfl, h.tx, h.node, h.zoneChanged, h.occupancyChanged, h.counts⟩

theorem raise (h : Alike s t) (e : Event) : Alike (raise e s) (raise e t) := by
  refine ⟨h.zoneStore, h.heads, h.occupancy, h.catchUp, h.tx, h.node, ?_, ?_, h.counts⟩ <;>
    cases e <;> simp [EventRecords.add, h.zoneChanged, h.occupancyChanged]

/-- Equal blocks and events carry over a count of any counter. -/
theorem countAt (h : Alike s t) (i : Fin 28) : Alike (countAt i s) (countAt i t) := by
  refine ⟨by simp [h.zoneStore], by simp [h.heads], by simp [h.occupancy], by simp [h.catchUp], by simp [h.tx], by simp [h.node],
    by simp [h.zoneChanged], ?_, fun c hc => ?_⟩
  · rw [countAt_events i s, countAt_events i t]
    exact h.occupancyChanged
  · rw [countAt_live, countAt_live, h.counts c hc]

theorem foldl {α : Type} (f : State → α → State) (hf : ∀ a s t, Alike s t → Alike (f s a) (f t a)) (l : List α) (h : Alike s t) :
    Alike (l.foldl f s) (l.foldl f t) := by
  induction l generalizing s t with
  | nil => exact h
  | cons a l ih => exact ih (hf a s t h)

/-! Settings and heads. -/

theorem raiseClock (h : Alike s t) (x : Word32) : Alike (raiseClock x s) (raiseClock x t) := by
  unfold Machine.raiseClock
  rw [h.zoneStore]
  split
  · exact h.setZoneStore _
  · exact h

theorem recomputeHeads (h : Alike s t) (z : Zone) (code : FadeCode) : Alike (recomputeHeads z code s) (recomputeHeads z code t) := by
  unfold Machine.recomputeHeads recomputeWhere
  rw [h.zoneStore, h.heads, h.occupancy, h.node]
  split
  · exact h.setHeads _
  · exact h

theorem replaceEntry (h : Alike s t) (z : Zone) (x : Setting) : Alike (replaceEntry z x s) (replaceEntry z x t) := by
  unfold Machine.replaceEntry
  rw [h.zoneStore]
  exact ((h.setZoneStore _).raise _).recomputeHeads _ _

theorem merge (h : Alike s t) (z : Zone) (x : Setting) : Alike (merge z x s) (merge z x t) := by
  have hr := h.raiseClock x.stamp
  unfold Machine.merge
  dsimp only
  rw [hr.zoneStore]
  split
  · exact hr.replaceEntry z x
  · split
    · exact hr.replaceEntry z x
    · split
      · exact hr
      · exact hr.countAt _

theorem mergeLook (h : Alike s t) (look : Look) (stamp : Word32) (origin : Station) :
    Alike (mergeLook look stamp origin s) (mergeLook look stamp origin t) := by
  unfold Machine.mergeLook
  rw [h.zoneStore]
  refine Alike.foldl _ (fun p u v huv => ?_) _ h
  exact huv.merge _ _

/-! Occupancy. -/

theorem putOccupancy (h : Alike s t) (z : Zone) (r : OccupancyRecord) : Alike (putOccupancy z r s) (putOccupancy z r t) := by
  unfold Machine.putOccupancy
  rw [h.occupancy]
  exact h.setOccupancy _

theorem changeOccupancy (h : Alike s t) (z : Zone) (r : OccupancyRecord) : Alike (changeOccupancy z r s) (changeOccupancy z r t) := by
  have hc := (h.putOccupancy z r).raise (.occupancyChanged (oneOf z))
  unfold Machine.changeOccupancy
  dsimp only
  rw [hc.occupancy, hc.zoneStore, h.occupancy]
  split
  · exact hc.recomputeHeads _ _
  · split
    · exact hc.recomputeHeads _ _
    · exact hc

theorem wake (h : Alike s t) (cause : WakeCause) (z : Zone) : Alike (wake cause z s) (wake cause z t) := by
  unfold Machine.wake
  rw [h.occupancy]
  dsimp only
  split
  · exact h
  · exact h.putOccupancy _ _
  · exact h.changeOccupancy _ _
  · exact h.changeOccupancy _ _

theorem wakeAll (h : Alike s t) (cause : WakeCause) (zones : List Zone) : Alike (wakeAll cause zones s) (wakeAll cause zones t) :=
  h.foldl _ (fun z _ _ h => h.wake cause z) zones

/-! The handlers. -/

theorem acceptPresence_self (n : Station) (x : Word32) (c : Word16) (p : AnnouncedPhase) (i l : Bool) (s : State) :
    Alike s (acceptPresence n x c p i l s) := by
  unfold acceptPresence
  dsimp only
  split
  · exact ⟨rfl, rfl, rfl, rfl, rfl, rfl, rfl, rfl, fun _ _ => rfl⟩
  · exact ⟨rfl, rfl, rfl, rfl, rfl, rfl, rfl, rfl, fun _ _ => rfl⟩

theorem acceptPresence (h : Alike s t) (n : Station) (x : Word32) (c : Word16) (p : AnnouncedPhase) (i l : Bool) :
    Alike (acceptPresence n x c p i l s) (acceptPresence n x c p i l t) := by
  have hs := acceptPresence_self n x c p i l s
  refine Alike.trans ⟨?_, ?_, ?_, ?_, ?_, ?_, ?_, ?_, ?_⟩ (h.trans (acceptPresence_self n x c p i l t))
  · exact hs.zoneStore.symm
  · exact hs.heads.symm
  · exact hs.occupancy.symm
  · exact hs.catchUp.symm
  · exact hs.tx.symm
  · exact hs.node.symm
  · exact hs.zoneChanged.symm
  · exact hs.occupancyChanged.symm
  · exact fun c hc => (hs.counts c hc).symm

theorem acceptSet (h : Alike s t) (f : Frame) (z : Zone) (c : Colour) (l : Byte) (x : FadeCode) (w : Bool) :
    Alike (acceptSet f z c l x w s) (acceptSet f z c l x w t) := by
  unfold Machine.acceptSet
  dsimp only
  split
  · exact (h.merge _ _).wake _ _
  · exact h.merge _ _

theorem acceptRecall (h : Alike s t) (f : Frame) (k : Look) (c : Word16) (w : Bool) :
    Alike (acceptRecall f k c w s) (acceptRecall f k c w t) := by
  unfold Machine.acceptRecall
  dsimp only
  rw [h.zoneStore]
  split
  · split
    · exact (h.mergeLook _ _ _).wakeAll _ _
    · exact h.mergeLook _ _ _
  · exact h.countAt _

theorem acceptAsk (h : Alike s t) (wanted : ZoneSet) : Alike (acceptAsk wanted s) (acceptAsk wanted t) := by
  unfold Machine.acceptAsk ownStation
  rw [h.zoneStore, h.catchUp, h.node]
  split
  · exact h.setCatchUp _
  · exact h

theorem acceptEntries (h : Alike s t) (entries : List SyncEntry) : Alike (acceptEntries entries s) (acceptEntries entries t) := by
  have hm : Alike (mergeEntries entries s) (mergeEntries entries t) := by
    refine Alike.foldl _ (fun e u v huv => ?_) _ h
    exact huv.merge _ _
  rw [acceptEntries_eq, acceptEntries_eq, strikeAnswers, strikeAnswers, hm.zoneStore, hm.catchUp]
  exact hm.setCatchUp _

/-- An accepted frame does the same to states alike. -/
theorem acceptFrame (h : Alike s t) (f : Frame) : Alike (acceptFrame f s) (acceptFrame f t) := by
  have hr := h.raiseClock f.stamp
  unfold Machine.acceptFrame handleFrame
  split
  · exact hr.acceptPresence _ _ _ _ _ _
  · exact hr.acceptSet _ _ _ _ _ _
  · exact hr.acceptRecall _ _ _ _
  · exact hr.wakeAll _ _
  · exact hr.acceptAsk _
  · exact hr.acceptEntries _

end Alike

/-! ## The way of a frame to its handler -/

theorem bringLaneUp_alike (L : Lane) (s : State) : Alike s (bringLaneUp L s) := by
  unfold bringLaneUp
  dsimp only
  split
  · exact ⟨rfl, rfl, rfl, rfl, rfl, rfl, rfl, rfl, fun _ _ => rfl⟩
  · exact .refl s

theorem laneIndex_ne_nodeIndex (L : Lane) (c : LaneCounter) (n : NodeCounter) : nodeIndex n ≠ laneIndex L c := by
  cases L <;> cases c <;> cases n <;> decide

theorem nodeIndex_injective (m n : NodeCounter) (h : nodeIndex m = nodeIndex n) : m = n := by
  revert h
  cases m <;> cases n <;> decide

/-- A count whose counter is none of the node's, or that of restarts, is no matter to the handlers. -/
theorem countAt_alike (i : Fin 28) (s : State) (h : ∀ c : NodeCounter, c ≠ .peerRestart → nodeIndex c ≠ i) : Alike s (countAt i s) := by
  refine ⟨by simp, by simp, by simp, by simp, by simp, by simp, by simp, by rw [countAt_events], fun c hc => ?_⟩
  rw [countAt_live, if_neg (h c hc)]

theorem countLane_alike (L : Lane) (c : LaneCounter) (s : State) : Alike s (countLane L c s) :=
  countAt_alike _ s (fun n _ => laneIndex_ne_nodeIndex L c n)

theorem hearPeer_alike (L : Lane) (n : Station) (crossed : Bool) (s : State) : Alike s (hearPeer L n crossed s) := by
  unfold hearPeer
  dsimp only
  split <;> exact ⟨rfl, rfl, rfl, rfl, rfl, rfl, rfl, rfl, fun _ _ => rfl⟩

/-- A GOOD frame of another station reaches the Duplicate Filter with its lane UP, and with all that the handlers read as it was. -/
theorem takeGood_reaches (L : Lane) (f : Frame) (s : State) (h : s.node.station ≠ some f.origin) :
    ∃ b : State, takeGood L f s = filterFrame L f b ∧ b.lanes = (bringLaneUp L s).lanes ∧ b.filter = s.filter ∧ Alike s b := by
  have hn : (bringLaneUp L s).node.station ≠ some f.origin := by
    rw [(bringLaneUp_alike L s).node]
    exact h
  unfold takeGood
  dsimp only
  rw [if_neg hn]
  have hup := (bringLaneUp_alike L s).trans (countLane_alike L .rxGood _)
  refine ⟨_, rfl, ?_, ?_, ?_⟩
  · split <;> simp
  · split <;> simp
  · split
    · exact (hup.trans (countLane_alike L .rxCrossed _)).trans (hearPeer_alike _ _ _ _)
    · exact hup.trans (hearPeer_alike _ _ _ _)

/-- A frame that the filter accepts reaches its handler with all that the handlers read as it was. -/
theorem filterFrame_reaches (L : Lane) (f : Frame) (s : State)
    (h : (judge L f s.filter.timeBase (lanesUp s) s.filter.entries[f.origin]).1.accepts = true) :
    ∃ b : State, filterFrame L f s = acceptFrame f b ∧ Alike s b := by
  have hnoted (x : DuplicateFilter) : Alike s (s.setFilter x) := ⟨rfl, rfl, rfl, rfl, rfl, rfl, rfl, rfl, fun _ _ => rfl⟩
  have hrestart (u : State) : Alike u (raise (.peerRestart (oneOf f.origin)) (countNode .peerRestart u)) := by
    refine (countAt_alike (nodeIndex .peerRestart) u (fun c hc he => hc (nodeIndex_injective _ _ he))).trans ?_
    exact ⟨rfl, rfl, rfl, rfl, rfl, rfl, rfl, rfl, fun _ _ => rfl⟩
  unfold filterFrame
  dsimp only
  split
  · exact ⟨_, rfl, hnoted _⟩
  · exact ⟨_, rfl, (hnoted _).trans (hrestart _)⟩
  · next hv => rw [hv] at h; exact absurd h (by decide)
  · next hv => rw [hv] at h; exact absurd h (by decide)

/-- FRAME_RECEIVED of an accepted frame of a peer does to the Zone Store, the heads, the Occupancy and the Catch-Up Unit what its acceptance does. -/
theorem exec_accepted (L : Lane) (bytes : List Byte) (f : Frame) (s : State) (h : AcceptedFrom L bytes f s) :
    ∃ t, exec (.frameReceived L bytes) s = .next t ∧ Alike (acceptFrame f s) t := by
  obtain ⟨hforeign, hpeer, haccepts⟩ := h
  obtain ⟨b, hb, hlanes, hfilter, hab⟩ := takeGood_reaches L f s hpeer
  obtain ⟨b', hb', hab'⟩ := filterFrame_reaches L f b (by rw [judge_reached L f s b hlanes hfilter]; exact haccepts)
  exact ⟨_, (exec_foreign L bytes f s hforeign).trans (by rw [hb, hb']), (hab.trans hab').acceptFrame f⟩

/-! ## SET and OCCUPY -/

theorem acceptFrame_set (f : Frame) (z : Zone) (c : Colour) (l : Byte) (x : FadeCode) (w : Bool) (s : State)
    (h : f.payload = .set z c l x w) : acceptFrame f s = acceptSet f z c l x w (raiseClock f.stamp s) := by
  rw [acceptFrame, handleFrame, h]

theorem acceptFrame_occupy (f : Frame) (zones : ZoneSet) (s : State) (h : f.payload = .occupy zones) :
    acceptFrame f s = wakeSet .occupyFrame zones (raiseClock f.stamp s) := by
  rw [acceptFrame, handleFrame, h]

/-- An accepted SET wakes its zone by its flag, whatever the merge gave. -/
theorem acceptSet_occupancy (f : Frame) (z : Zone) (c : Colour) (l : Byte) (x : FadeCode) (w : Bool) (s : State) :
    (acceptSet f z c l x w s).occupancy =
      if w = true then { s.occupancy with records := update s.occupancy.records z (wokenRecord .occupyFrame z s) } else s.occupancy := by
  cases w
  · simp [acceptSet]
  · simp only [acceptSet, if_true]
    rw [wake_occupancy, wokenRecord_congr .occupyFrame z s _ (by simp)]
    simp

/-- A record that a wake changes the state of (R122). -/
def asleep (r : OccupancyRecord) : Bool := r.state == .vacant || r.state == .dark

/-- A wake raises OCCUPANCY_CHANGED for its zone where it changes the record's state. -/
theorem wake_occupancyChanged (cause : WakeCause) (z : Zone) (s : State) :
    (wake cause z s).events.records.occupancyChanged =
      if asleep s.occupancy.records[z] = true then andOne s.events.records.occupancyChanged z else s.events.records.occupancyChanged := by
  unfold wake asleep
  dsimp only
  split
  · next h => rw [h]; rfl
  · next h => rw [h]; simp
  · next h => rw [h, changeOccupancy_events]; rfl
  · next h => rw [h, changeOccupancy_events]; rfl

/-- A woken record is awake. -/
theorem wokenRecord_awake (cause : WakeCause) (z : Zone) (s : State) : asleep (wokenRecord cause z s) = false := by
  unfold wokenRecord
  split
  · next h => rw [asleep, h]; rfl
  · rfl

/-- Wakes raise OCCUPANCY_CHANGED for the zones among them that sleep. -/
theorem wakeAll_occupancyChanged (cause : WakeCause) (zones : List Zone) (s : State) (y : Zone) :
    inSet ((wakeAll cause zones s).events.records.occupancyChanged.getD 0) y =
      (inSet (s.events.records.occupancyChanged.getD 0) y || (decide (y ∈ zones) && asleep s.occupancy.records[y])) := by
  unfold wakeAll
  induction zones generalizing s with
  | nil => simp
  | cons z zones ih =>
    rw [List.foldl_cons, ih, wake_record, wake_occupancyChanged]
    by_cases hy : y = z
    · subst hy
      cases ha : asleep s.occupancy.records[y] <;> simp [wokenRecord_awake, andOne, inSet_or, oneOf_inSet]
    · cases ha : asleep s.occupancy.records[z] <;> simp [andOne, inSet_or, oneOf_inSet, hy]

/-- Settles O21: `exec_accepted`, and what the handlers of SET and OCCUPY do. -/
theorem acceptedSetIsMergedAndWakes : Obligations.AcceptedSetIsMergedAndWakes := by
  unfold Obligations.AcceptedSetIsMergedAndWakes
  refine ⟨fun L bytes f z colour level fade waking s hf hn hp ha => ?_, fun L bytes f zones s hf hn hp ha => ?_⟩
  · intro x
    obtain ⟨t, ht, h⟩ := exec_accepted L bytes f s ⟨hf, hn, ha⟩
    rw [acceptFrame_set f z colour level fade waking s hp] at h
    have hocc : t.occupancy =
        if waking = true then { s.occupancy with records := update s.occupancy.records z (wokenRecord .occupyFrame z s) }
        else s.occupancy := by
      rw [h.occupancy, acceptSet_occupancy, wokenRecord_congr .occupyFrame z s _ (by simp)]
      simp
    refine ⟨t, ht, ?_, fun z' => ?_, ?_, ?_, ?_, ?_⟩
    · rw [h.zoneStore, acceptSet_zoneStore]
      exact merge_raised z x s
    · rw [hocc]
      by_cases hw : waking = true
      · simp only [hw, if_true, and_true]
        exact update_get _ _ _ _
      · simp [hw]
    · rw [hocc]
      split <;> rfl
    · rw [h.catchUp]
      simp
    · rw [h.tx]
      simp
    · rw [h.node]
      simp
  · obtain ⟨t, ht, h⟩ := exec_accepted L bytes f s ⟨hf, hn, ha⟩
    rw [acceptFrame_occupy f zones s hp] at h
    obtain ⟨hstore, hclock⟩ := raiseClock_zoneStore f.stamp s
    have hz : t.zoneStore = (raiseClock f.stamp s).zoneStore := by
      rw [h.zoneStore]
      simp
    refine ⟨t, ht, fun z => ?_, fun z => ?_, ?_, ?_, ?_, ?_, ?_, ?_⟩
    · rw [h.occupancy, wakeSet_record, wokenRecord_congr .occupyFrame z s _ (by simp)]
      simp
    · rw [h.occupancyChanged, wakeSet, wakeAll_occupancyChanged]
      simp [asleep, mem_members]
    · rw [h.occupancy, wakeSet, wakeAll_config]
      simp
    · rw [hz]
      exact hstore
    · rw [hz]
      exact hclock
    · rw [h.catchUp]
      simp
    · rw [h.tx]
      simp
    · rw [h.node]
      simp

/-! ## RECALL -/

theorem acceptFrame_recall (f : Frame) (look : Look) (checksum : Word16) (w : Bool) (s : State)
    (h : f.payload = .recall look checksum w) : acceptFrame f s = acceptRecall f look checksum w (raiseClock f.stamp s) := by
  rw [acceptFrame, handleFrame, h]

/-- The settings of a look depend on the library alone. -/
theorem lookSettings_raiseClock (x : Word32) (s : State) (look : Look) :
    lookSettings (raiseClock x s).zoneStore look = lookSettings s.zoneStore look := by
  simp only [lookSettings, raiseClock_library]

theorem lookZones_raiseClock (x : Word32) (s : State) (look : Look) :
    lookZones (raiseClock x s).zoneStore look = lookZones s.zoneStore look := by
  rw [lookZones, lookSettings_raiseClock, lookZones]

/-- An accepted RECALL under the own checksum wakes the zones of its look by its flag. -/
theorem acceptRecall_record (f : Frame) (look : Look) (checksum : Word16) (w : Bool) (s : State)
    (hc : s.zoneStore.checksum = some checksum) (z : Zone) :
    (acceptRecall f look checksum w s).occupancy.records[z] =
      if z ∈ lookZones s.zoneStore look ∧ w = true then wokenRecord .occupyFrame z s else s.occupancy.records[z] := by
  cases w
  · simp [acceptRecall, hc]
  · simp only [acceptRecall, hc, if_true, and_true]
    rw [wakeAll_record, wokenRecord_congr .occupyFrame z s _ (by simp)]
    simp

/-- Settles O22: the handler of RECALL, and `exec_accepted` for the frame as received. -/
theorem acceptedRecallNeedsTheChecksum : Obligations.AcceptedRecallNeedsTheChecksum := by
  unfold Obligations.AcceptedRecallNeedsTheChecksum
  intro f look checksum waking s hp
  have haccept := acceptFrame_recall f look checksum waking s hp
  refine ⟨fun hc => ?_, fun hc hn => ?_, fun L bytes hfrom => ?_⟩
  · rw [haccept, acceptRecall, if_neg (by simpa using hc)]
  · intro t
    have ht : t = acceptRecall f look checksum waking (raiseClock f.stamp s) := haccept
    have hc' : (raiseClock f.stamp s).zoneStore.checksum = some checksum := by simpa using hc
    have hstore : t.zoneStore = (mergeLook look f.stamp f.origin (raiseClock f.stamp s)).zoneStore := by
      rw [ht, acceptRecall_zoneStore, if_pos hc']
    refine ⟨fun p hp => ?_, fun z hz => ?_, fun z => ?_, ?_⟩
    · rw [hstore, merge_table, if_pos rfl, mergeLook_listed look _ _ _ (by rwa [lookZones_raiseClock]) p
        (by rwa [lookSettings_raiseClock]), raiseClock_table]
      rfl
    · rw [hstore, mergeLook_other look _ _ _ z (by rwa [lookZones_raiseClock]), raiseClock_table]
    · rw [ht, acceptRecall_record _ _ _ _ _ hc', lookZones_raiseClock, wokenRecord_congr .occupyFrame z s _ (by simp)]
      simp
    · rw [ht]
      apply State.eq_of_fields <;> simp
  · obtain ⟨t, ht, h⟩ := exec_accepted L bytes f s hfrom
    refine ⟨t, ht, h.zoneStore, h.heads, h.occupancy, h.counts .recallRefused (by decide), h.zoneChanged, ?_, ?_, ?_⟩
    · rw [h.catchUp, haccept]
      simp
    · rw [h.tx]
      simp
    · rw [h.node]
      simp

/-! ## SYNC_ASK and SYNC_ENTRY -/

theorem acceptFrame_syncAsk (f : Frame) (wanted : ZoneSet) (s : State) (h : f.payload = .syncAsk wanted) :
    acceptFrame f s = acceptAsk wanted (raiseClock f.stamp s) := by
  rw [acceptFrame, handleFrame, h]

theorem acceptFrame_syncEntry (f : Frame) (entries : List SyncEntry) (s : State) (h : f.payload = .syncEntry entries) :
    acceptFrame f s = acceptEntries entries (raiseClock f.stamp s) := by
  rw [acceptFrame, handleFrame, h]

theorem Timer.isRunning_eq_false {t : Timer} : t.isRunning = false ↔ t = .stopped := by cases t <;> simp [Timer.isRunning]

/-- In RUNNING the wanted zones that are HELD join the pending answer set (R106). -/
theorem acceptAsk_answers (wanted : ZoneSet) (s : State) (h : s.node.phase = .running) (z : Zone) :
    inSet (acceptAsk wanted s).catchUp.answers z =
      (inSet s.catchUp.answers z || (inSet wanted z && s.zoneStore.table[z].isSome)) := by
  have hheld : inSet (heldZones s.zoneStore) z = s.zoneStore.table[z].isSome := setOf_inSet _ z
  rw [← hheld]
  simp [acceptAsk, h, inSet]

/-- In RUNNING the back-off starts with the first pending zones, and a running one goes on (R106). -/
theorem acceptAsk_backoff (wanted : ZoneSet) (s : State) (h : s.node.phase = .running) :
    (acceptAsk wanted s).catchUp.backoff =
      if (acceptAsk wanted s).catchUp.answers ≠ 0 ∧ s.catchUp.backoff = .stopped then .running (backoffTime (ownStation s))
      else s.catchUp.backoff := by
  simp [acceptAsk, h, Timer.isRunning_eq_false]

/-- Of the Catch-Up Unit an accepted SYNC_ASK moves the answers and the back-off alone. -/
theorem acceptAsk_catchUp (wanted : ZoneSet) (s : State) :
    (acceptAsk wanted s).catchUp =
      { s.catchUp with answers := (acceptAsk wanted s).catchUp.answers, backoff := (acceptAsk wanted s).catchUp.backoff } := by
  unfold acceptAsk
  dsimp only
  split <;> rfl

theorem acceptAsk_off (wanted : ZoneSet) (s : State) (h : s.node.phase ≠ .running) : acceptAsk wanted s = s := if_neg h

@[simp] theorem mergeEntries_catchUp (entries : List SyncEntry) (s : State) : (mergeEntries entries s).catchUp = s.catchUp :=
  foldl_keep State.catchUp _ (by intros; simp) entries s

/-- A zone of which there is no entry keeps its own. -/
theorem mergeEntries_other (entries : List SyncEntry) (s : State) (z : Zone) (h : ∀ e ∈ entries, e.zone ≠ z) :
    (mergeEntries entries s).zoneStore.table[z] = s.zoneStore.table[z] := by
  unfold mergeEntries
  induction entries generalizing s with
  | nil => rfl
  | cons e entries ih =>
    rw [List.foldl_cons, ih _ (fun a ha => h a (List.mem_cons_of_mem e ha)), merge_table,
      if_neg (fun hz => h e List.mem_cons_self hz.symm)]

/-- A zone of which there is an entry is HELD after the merge. -/
theorem mergeEntries_held (entries : List SyncEntry) (s : State) (e : SyncEntry) (he : e ∈ entries) :
    ∃ own, (mergeEntries entries s).zoneStore.table[e.zone] = some own := by
  unfold mergeEntries
  induction entries generalizing s with
  | nil => simp at he
  | cons a entries ih =>
    rw [List.foldl_cons]
    rcases List.mem_cons.mp he with rfl | he
    · have hheld : ∃ x, (merge e.zone e.setting s).zoneStore.table[e.zone] = some x := by
        rw [merge_table, if_pos rfl]
        cases hown : s.zoneStore.table[e.zone] with
        | none => exact ⟨e.setting, by simp [mergedEntry, replaces]⟩
        | some x =>
          unfold mergedEntry
          split
          · exact ⟨_, rfl⟩
          · exact ⟨_, rfl⟩
      obtain ⟨x, hx⟩ := hheld
      obtain ⟨y, hy, -⟩ := (Rises.foldl (fun s (e : SyncEntry) => merge e.zone e.setting s) (fun s e => merge_rises _ _ s) entries
        (merge e.zone e.setting s)).2 e.zone x hx
      exact ⟨y, hy⟩
    · exact ih _ he

/-- An entry fails to answer its zone, HELD here, exactly where the own pair is higher (R107). -/
theorem answersZone_eq_false_iff (store : ZoneStore) (e : SyncEntry) (own : Setting) (h : store.table[e.zone] = some own) :
    answersZone store e = false ↔ higher own e.setting = true := by
  unfold answersZone
  rw [h]
  rcases stampOrder_trichotomy e.setting own with ⟨h1, h2, h3⟩ | ⟨h1, h2, h3⟩ | ⟨h1, h2, h3⟩ <;> simp [h1, h2, h3]

/-- The zones that stay pending after a SYNC_ENTRY: those of which every entry is lower than the own one (R107). -/
theorem acceptEntries_answers (entries : List SyncEntry) (s : State) (z : Zone) :
    inSet (acceptEntries entries s).catchUp.answers z = true ↔
      inSet s.catchUp.answers z = true ∧
        ∀ e ∈ entries, e.zone = z → ∃ own, (mergeEntries entries s).zoneStore.table[z] = some own ∧ higher own e.setting = true := by
  rw [acceptEntries_eq, strikeAnswers, State.setCatchUp_catchUp]
  dsimp only
  rw [strikeFold_inSet, mergeEntries_catchUp, Bool.and_eq_true, List.all_eq_true]
  refine and_congr_right fun _ => forall₂_congr fun e he => ?_
  obtain ⟨own, hown⟩ := mergeEntries_held entries s e he
  by_cases hz : e.zone = z
  · subst hz
    simp [answersZone_eq_false_iff _ e own hown, hown]
  · simp [hz]

/-- The back-off stops when no zone stays pending (R107). -/
theorem acceptEntries_backoff (entries : List SyncEntry) (s : State) :
    (acceptEntries entries s).catchUp.backoff =
      if (acceptEntries entries s).catchUp.answers = 0 then .stopped else s.catchUp.backoff := by
  simp [acceptEntries_eq, strikeAnswers]

/-- Settles O35: the responder's two handlers, and `exec_accepted` for the frames as received. -/
theorem responderCollectsAndStrikes : Obligations.ResponderCollectsAndStrikes := by
  unfold Obligations.ResponderCollectsAndStrikes
  refine ⟨fun f wanted s hp => ?_, fun f entries s hp => ?_, fun L bytes f s hp hfrom => ?_⟩
  · intro t
    have ht : t = acceptAsk wanted (raiseClock f.stamp s) := acceptFrame_syncAsk f wanted s hp
    refine ⟨fun hn => ?_, fun hrun => ⟨fun z => ?_, fun ha hb => ?_, fun h => ?_, ?_⟩, ?_⟩
    · rw [ht, acceptAsk_off _ _ (by simpa using hn)]
      simp
    · rw [ht, acceptAsk_answers _ _ (by simpa using hrun)]
      simp
    · rw [ht] at ha ⊢
      rw [acceptAsk_backoff _ _ (by simpa using hrun), if_pos ⟨ha, by simpa using hb⟩]
      simp [backoffTime, ms, ownStation, Nat.mul_comm]
    · rw [ht] at h ⊢
      rw [acceptAsk_backoff _ _ (by simpa using hrun), if_neg]
      · simp
      · rintro ⟨ha, hb⟩
        rcases h with h | h
        · exact ha h
        · exact h (by simpa using hb)
    · rw [ht]
      exact (acceptAsk_catchUp wanted _).trans (by simp)
    · rw [ht]
      apply State.eq_of_fields <;> simp
  · intro t
    have ht : t = acceptEntries entries (raiseClock f.stamp s) := acceptFrame_syncEntry f entries s hp
    have htable : t.zoneStore = (mergeEntries entries (raiseClock f.stamp s)).zoneStore := by
      rw [ht, acceptEntries_zoneStore]
      rfl
    refine ⟨?_, fun z => ?_, fun h => ?_, fun h => ?_, fun z hz => ?_, ?_, ?_, ?_⟩
    · rw [ht]
      rfl
    · rw [htable, ht, acceptEntries_answers]
      simp
    · rw [ht] at h ⊢
      rw [acceptEntries_backoff, if_pos h]
    · rw [ht] at h ⊢
      rw [acceptEntries_backoff, if_neg h]
      simp
    · rw [htable, mergeEntries_other _ _ z hz, raiseClock_table]
    · rw [ht]
      simp
    · rw [ht]
      simp
    · rw [ht]
      simp
  · obtain ⟨t, ht, h⟩ := exec_accepted L bytes f s hfrom
    refine ⟨t, ht, h.catchUp, h.zoneStore, h.heads, h.zoneChanged, h.counts .setSuperseded (by decide), ?_, ?_, ?_⟩
    · rw [h.occupancy]
      rcases hp with ⟨wanted, hp⟩ | ⟨entries, hp⟩
      · rw [acceptFrame_syncAsk f wanted s hp]
        simp
      · rw [acceptFrame_syncEntry f entries s hp]
        simp
    · rw [h.tx]
      simp
    · rw [h.node]
      simp

end Sys2Proof.Machine
end

section
/-! The values after reset, and the result bytes of the reads: O3 and O55. -/

namespace Sys2Proof.Machine

open Sys2Proof

/-- Settles O3: each field as the reset record writes it, each entry of a table as the entry it is filled with. -/
theorem resetLeavesTheSpecsValues : Obligations.ResetLeavesTheSpecsValues := by
  unfold Obligations.ResetLeavesTheSpecsValues
  refine ⟨fun z => replicate_get _ z, rfl, rfl, rfl, rfl, fun z => replicate_get _ z, fun L => ?lanes, fun n => replicate_get _ n,
    fun n => replicate_get _ n, rfl, rfl, rfl, fun z => ?occupancy, fun i => ?inputs, fun h => ?heads, fun c => ?channels, rfl, rfl, rfl, rfl,
    rfl, rfl, rfl, rfl, fun i => ⟨replicate_get _ i, replicate_get _ i⟩, rfl, rfl, rfl, rfl, rfl, rfl, rfl⟩
  case lanes => cases L <;> exact ⟨rfl, rfl⟩
  case occupancy => exact ⟨congrArg OccupancyConfig.enable (replicate_get _ z), replicate_get _ z⟩
  case inputs => exact ⟨congrArg InputConfig.kind (replicate_get _ i), replicate_get _ i⟩
  case heads => exact congrArg HeadConfig.zone (replicate_get _ h)
  case channels => exact ⟨replicate_get _ c, replicate_get _ c⟩

/-! ## Numbers as bytes -/

/-- A number as two bytes, high byte first (R194). -/
def twoBytes (n : Nat) : List Byte := [BitVec.ofNat 8 (n / 256), BitVec.ofNat 8 n]

/-- A number as four bytes, high byte first (R194). -/
def fourBytes (n : Nat) : List Byte :=
  [BitVec.ofNat 8 (n / 16777216), BitVec.ofNat 8 (n / 65536), BitVec.ofNat 8 (n / 256), BitVec.ofNat 8 n]

theorem extractLsb'_eq_ofNat {w : Nat} (x : BitVec w) (k : Nat) : x.extractLsb' k 8 = BitVec.ofNat 8 (x.toNat / 2 ^ k) := by
  apply BitVec.eq_of_toNat_eq
  simp [Nat.shiftRight_eq_div_pow]

theorem split16_eq_twoBytes (w : Word16) : split16 w = twoBytes w.toNat := by
  simp only [split16, twoBytes, extractLsb'_eq_ofNat, Nat.reducePow, Nat.div_one]

theorem split32_eq_fourBytes (w : Word32) : split32 w = fourBytes w.toNat := by
  simp only [split32, fourBytes, extractLsb'_eq_ofNat, Nat.reducePow, Nat.div_one]

theorem word16Of_eq_twoBytes (n : Nat) : word16Of n = twoBytes n := by
  rw [word16Of, split16_eq_twoBytes]
  simp only [twoBytes, List.cons.injEq, and_true]
  constructor <;> apply BitVec.eq_of_toNat_eq <;> simp only [BitVec.toNat_ofNat] <;> omega

@[simp] theorem split16_length (w : Word16) : (split16 w).length = 2 := rfl
@[simp] theorem split32_length (w : Word32) : (split32 w).length = 4 := rfl
@[simp] theorem word16Of_length (n : Nat) : (word16Of n).length = 2 := rfl

/-! ## Codes -/

theorem Phase.code_eq (p : Phase) : p.code = BitVec.ofNat 8 ([Phase.loading, .commission, .listen, .catchUp, .running, .mute].idxOf p) := by
  cases p <;> rfl

theorem Direction.code_eq (d : Direction) : d.code = BitVec.ofNat 8 ([Direction.none, .read, .write].idxOf d) := by cases d <;> rfl

theorem LaneState.code_eq (l : LaneState) : l.code = [LaneState.disabled, .up, .down].idxOf l := by cases l <;> rfl

theorem OccupancyState.code_eq (o : OccupancyState) :
    o.code = BitVec.ofNat 8 ([OccupancyState.follow, .occupied, .vacant, .dark].idxOf o) := by
  cases o <;> rfl

theorem WakeCause.code_eq (c : WakeCause) :
    c.code = BitVec.ofNat 8 ([WakeCause.start, .localSensor, .occupyFrame, .switch, .port].idxOf c) := by
  cases c <;> rfl

theorem PeerState.code_eq (p : PeerState) :
    p.code = BitVec.ofNat 8 ([PeerState.absent, .present, .silent, .lost, .self].idxOf p) := by
  cases p <;> rfl

theorem announcedCode_eq (p : Option AnnouncedPhase) :
    announcedCode p = BitVec.ofNat 8 ([none, some AnnouncedPhase.listen, some .catchUp, some .running].idxOf p) := by
  rcases p with _ | p
  · rfl
  · cases p <;> rfl

theorem causeByte_eq (c : ResetCause) :
    causeByte c = BitVec.ofNat 8 ([ResetKind.powerOn, .resetLine, .restart].idxOf c.kind + 4 * c.interruptedWrite.toNat +
      8 * c.configValid.toNat + 16 * [CommissionReason.none, .setupLine, .configInvalid].idxOf c.reason) := by
  rw [causeByte]
  cases c.kind <;> cases c.interruptedWrite <;> cases c.configValid <;> cases c.reason <;> decide

theorem stationByte_eq (n : Option Station) :
    stationByte n = match n with
      | some n => BitVec.ofNat 8 n.val
      | none => 0xFF := by
  cases n <;> rfl

/-! ## Flags -/

theorem isolated_eq (s : State) : isolated s = decide (s.lanes.a.state ≠ .up ∧ s.lanes.b.state ≠ .up) := by
  rw [isolated]
  cases s.lanes.a.state <;> cases s.lanes.b.state <;> rfl

theorem configBusy_eq (s : State) : configBusy s = decide (s.store.write ≠ .idle) := by
  rw [configBusy, Bool.eq_iff_iff, isWriting_writing, decide_eq_true_eq]

theorem twoFlags (a b : Bool) : bitAt 0 a ||| bitAt 1 b = BitVec.ofNat 8 (a.toNat + 2 * b.toNat) := by
  cases a <;> cases b <;> rfl

theorem fourFlags (a b c d : Bool) :
    bitAt 0 a ||| bitAt 1 b ||| bitAt 2 c ||| bitAt 3 d = BitVec.ofNat 8 (a.toNat + 2 * b.toNat + 4 * c.toNat + 8 * d.toNat) := by
  cases a <;> cases b <;> cases c <;> cases d <;> rfl

theorem fiveFlags (a b c d e : Bool) :
    bitAt 0 a ||| bitAt 1 b ||| bitAt 2 c ||| bitAt 3 d ||| bitAt 4 e =
      BitVec.ofNat 8 (a.toNat + 2 * b.toNat + 4 * c.toNat + 8 * d.toNat + 16 * e.toNat) := by
  cases a <;> cases b <;> cases c <;> cases d <;> cases e <;> rfl

/-- The lane byte of READ_PEER: two bits for each lane's count, one for each lane HEARD. -/
theorem lanesByte_eq (a b : Nat) (ha : a ≤ 3) (hb : b ≤ 3) :
    byteOf (a + 4 * b) ||| bitAt 4 (decide (a < 3)) ||| bitAt 5 (decide (b < 3)) =
      BitVec.ofNat 8 (a + 4 * b + 16 * (decide (a < 3)).toNat + 32 * (decide (b < 3)).toNat) := by
  interval_cases a <;> interval_cases b <;> rfl

/-! ## Layouts -/

theorem statusBytes_eq (s : State) :
    statusBytes s =
      [BitVec.ofNat 8 ([Phase.loading, .commission, .listen, .catchUp, .running, .mute].idxOf s.node.phase),
       BitVec.ofNat 8 ([ResetKind.powerOn, .resetLine, .restart].idxOf s.node.cause.kind + 4 * s.node.cause.interruptedWrite.toNat +
         8 * s.node.cause.configValid.toNat + 16 * [CommissionReason.none, .setupLine, .configInvalid].idxOf s.node.cause.reason),
       stationByte s.node.cause.conflict, stationByte s.node.station,
       BitVec.ofNat 8 ([LaneState.disabled, .up, .down].idxOf s.lanes.a.state + 4 * [LaneState.disabled, .up, .down].idxOf s.lanes.b.state),
       BitVec.ofNat 8 ((decide (s.lanes.a.state ≠ .up ∧ s.lanes.b.state ≠ .up)).toNat + 2 * s.catchUp.incomplete.toNat +
         4 * s.zoneStore.exhausted.toNat + 8 * (decide (s.store.write ≠ .idle)).toNat + 16 * (attn s).toNat)] ++
      fourBytes s.zoneStore.clock.toNat ++ twoBytes s.node.startCounter.toNat ++ twoBytes s.store.pointer ++
      [BitVec.ofNat 8 ([Direction.none, .read, .write].idxOf s.store.direction)] := by
  rw [statusBytes, Phase.code_eq, causeByte_eq, fiveFlags, isolated_eq, configBusy_eq, split32_eq_fourBytes, split16_eq_twoBytes,
    word16Of_eq_twoBytes, Direction.code_eq, LaneState.code_eq, LaneState.code_eq]
  rfl

theorem entryBytes_eq (e : Option Setting) :
    entryBytes e =
      match e with
      | none => [0, 0, 0, 0, 0, 0, 0, 0, 0, 0, 0, 0xFF]
      | some x => [1, x.colour.r, x.colour.g, x.colour.b, x.level, BitVec.ofNat 8 x.fade.val] ++ fourBytes x.stamp.toNat ++
          [BitVec.ofNat 8 x.origin.val, match x.source with
            | .set => 0xFF
            | .recall look => BitVec.ofNat 8 look.val] := by
  cases e with
  | none => rfl
  | some x =>
    rw [entryBytes, split32_eq_fourBytes]
    cases hx : x.source <;> simp [hx, Source.code, byteOf]

theorem entryBytes_length (e : Option Setting) : (entryBytes e).length = 12 := by
  cases e <;> rfl

theorem zoneBytes_length (z : Zone) (s : State) : (zoneBytes z s).length = 21 := by
  simp [zoneBytes, entryBytes_length]

theorem peerBytes_eq (p : PeerRecord) (e : OriginEntry) (ha : p.sinceLane.a ≤ 3) (hb : p.sinceLane.b ≤ 3) :
    peerBytes p e =
      [BitVec.ofNat 8 ([PeerState.absent, .present, .silent, .lost, .self].idxOf p.state), BitVec.ofNat 8 p.sinceHeard,
       BitVec.ofNat 8 (p.sinceLane.a + 4 * p.sinceLane.b + 16 * (decide (p.sinceLane.a < 3)).toNat +
         32 * (decide (p.sinceLane.b < 3)).toNat)] ++
      twoBytes p.checksum.toNat ++
      [BitVec.ofNat 8 ([none, some AnnouncedPhase.listen, some .catchUp, some .running].idxOf p.phase),
       BitVec.ofNat 8 (p.incomplete.toNat + 2 * p.singleLane.toNat + 4 * p.mismatch.toNat + 8 * p.crossed.toNat)] ++
      fourBytes p.clock.toNat ++ [BitVec.ofNat 8 e.active.toNat, e.startTag] ++ twoBytes e.highest.toNat ++ fourBytes e.window.toNat ++
      [BitVec.ofNat 8 (e.lanesSeen.a.toNat + 2 * e.lanesSeen.b.toNat), e.worstSkew, e.laneMiss.a, e.laneMiss.b] := by
  have hw : (e.window.setWidth 32).toNat = e.window.toNat := by
    have := e.window.isLt
    rw [BitVec.toNat_setWidth]
    omega
  have hactive : bitAt 0 e.active = BitVec.ofNat 8 e.active.toNat := by cases e.active <;> rfl
  have hlanes : byteOf (p.sinceLane.a + 4 * p.sinceLane.b) ||| bitAt 4 (laneHeard .A p) ||| bitAt 5 (laneHeard .B p) = _ :=
    lanesByte_eq p.sinceLane.a p.sinceLane.b ha hb
  rw [peerBytes, PeerState.code_eq, hlanes, split16_eq_twoBytes, announcedCode_eq, fourFlags, split32_eq_fourBytes, hactive,
    split16_eq_twoBytes, split32_eq_fourBytes, hw, twoFlags]
  rfl

theorem channelBytes_eq (c : ChannelRecord) : channelBytes c = twoBytes c.current ++ twoBytes c.target ++ twoBytes c.remaining := by
  simp only [channelBytes, word16Of_eq_twoBytes]

theorem headBytes_eq (h : Head) (s : State) :
    headBytes h s = [(0 : Fin 3), 1, 2].flatMap fun k => channelBytes s.heads.channels[channelOf h k] := by
  simp [headBytes]

/-- A run of a list is its places in order. -/
theorem take_drop_eq_map_range {α : Type} (l : List α) (first count : Nat) (d : α) (h : first + count ≤ l.length) :
    (l.drop first).take count = (List.range count).map fun i => l.getD (first + i) d := by
  apply List.ext_getElem
  · simp
    omega
  · intro i h1 h2
    have hi : i < count := by simpa using h2
    simp [List.getD_eq_getElem?_getD, List.getElem?_eq_getElem (show first + i < l.length by omega)]

theorem counterBytes_eq (first count : Nat) (bank : CounterBank) (h : first + count ≤ 28) :
    counterBytes first count bank =
      (List.range count).flatMap fun i => fourBytes ((bank.capture.toList.getD (first + i) 0).toNat) := by
  rw [counterBytes, take_drop_eq_map_range _ _ _ 0 (by simpa using h), List.flatMap_map]
  simp only [split32_eq_fourBytes]

theorem counterBytes_length (first count : Nat) (bank : CounterBank) (h : first + count ≤ 28) :
    (counterBytes first count bank).length = 4 * count := by
  rw [counterBytes_eq first count bank h]
  simp [fourBytes, List.length_flatMap, Nat.mul_comm]

/-! ## The reads -/

/-- A read whose argument is in range is answered OK with its bytes. -/
theorem serve_read {α : Type} (arg : Option α) (x : α) (act : α → State → Served) (s t : State) (bytes : List Byte) (h : Serving s)
    (harg : arg = some x) (hact : act x s = okWith t bytes) :
    serve plainRequest arg act s = .next (t.setPort (.answered (0 :: bytes) false)) := by
  obtain ⟨hport, hphase⟩ := h
  rw [serve_opened _ _ _ _ hport, harg, screen_served _ _ _ _ (fun h => absurd h hphase) (fun h => absurd h (by decide))
    (fun h => absurd h (by decide)), hact]
  rfl

/-- STATUS is answered in every phase. -/
theorem exec_status (s : State) (h : s.port = .opened) : exec .status s = .next (s.setPort (.answered (0 :: statusBytes s) false)) := by
  simp only [exec, execStatus]
  rw [serve_opened _ _ _ _ h, screen_served _ _ _ _ (fun _ => rfl) (fun h => absurd h (by decide)) (fun h => absurd h (by decide))]
  rfl

/-- READ_PEER is answered with its entry's bytes, and the entry's worst skew is cleared after them (R61). -/
theorem exec_readPeer (n : Station) (s : State) (h : Serving s) :
    exec (.readPeer (BitVec.ofNat 8 n.val)) s =
      .next ((s.setFilter
        { s.filter with entries := update s.filter.entries n { s.filter.entries[n] with worstSkew := 0 } }).setPort
          (.answered (0 :: peerBytes s.presence.peers[n] s.filter.entries[n]) false)) := by
  simp only [exec, execReadPeer]
  exact serve_read _ n _ s _ _ h (below_ofNat 32 (by omega) n) rfl

theorem counterArgs_inRange (first count : Byte) (hc : count ≠ 0) (h : first.toNat + count.toNat ≤ 28) :
    counterArgs first count = some (first.toNat, count.toNat) := by
  have hn : count.toNat ≠ 0 := fun h0 => hc (BitVec.eq_of_toNat_eq h0)
  rw [counterArgs, if_neg (by omega)]

/-- Settles O55: the answers by `serve_read`, the layouts by the lemma of each. -/
theorem readsAnswerAndKeepTheState : Obligations.ReadsAnswerAndKeepTheState := by
  unfold Obligations.ReadsAnswerAndKeepTheState
  refine ⟨fun s => ⟨fun h => ⟨exec_status s h, ?_⟩, fun h => ⟨fun z => ⟨?_, ?_⟩, fun hd => ⟨?_, ?_⟩, fun first count hc hle => ⟨?_, ?_⟩⟩⟩,
    fun n s h => ⟨?_, ?_⟩, fun s => ?_, fun z s => ?_, peerBytes_eq, fun hd s => ?_, counterBytes_eq⟩
  · simp [statusBytes]
  · exact serve_read _ z _ s s _ h (below_ofNat 32 (by omega) z) rfl
  · exact zoneBytes_length z s
  · exact serve_read _ hd _ s s _ h (below_ofNat 4 (by omega) hd) rfl
  · simp [headBytes, channelBytes]
  · exact serve_read _ (first.toNat, count.toNat) _ s s _ h (counterArgs_inRange first count hc hle) rfl
  · exact counterBytes_length _ _ _ hle
  · exact exec_readPeer n s h
  · simp [peerBytes]
  · rw [statusBytes_eq, stationByte_eq, stationByte_eq]
    rfl
  · rw [zoneBytes, entryBytes_eq, word16Of_eq_twoBytes, OccupancyState.code_eq, WakeCause.code_eq]
    rfl
  · rw [headBytes_eq]
    simp only [channelBytes_eq]
    rfl

end Sys2Proof.Machine
end

section
/-! LOADING reads the Config Store: the start counter, and the tests of validation field by field: O50. -/

namespace Sys2Proof.Machine

open Sys2Proof

/-! ## Parts of a byte -/

/-- A byte is read as a number below `n` where it is one. -/
theorem below_eq_some {n : Nat} {b : Byte} {x : Fin n} : below n b = some x ↔ x.val = b.toNat := by
  unfold below
  split
  · simp [Fin.ext_iff, eq_comm]
  · have := x.isLt
    simp
    omega

theorem below_inRange {n : Nat} {b : Byte} (h : b.toNat < n) : below n b = some ⟨b.toNat, h⟩ := below_eq_some.mpr rfl

theorem lowThree_iff (b : Byte) : b &&& 0xF8#8 = 0 ↔ b.toNat ≤ 7 := by
  revert b
  decide +kernel

theorem laneUse_iff (b : Byte) : (b &&& 0xFC#8 = 0 ∧ b ≠ 0) ↔ 1 ≤ b.toNat ∧ b.toNat ≤ 3 := by
  revert b
  decide +kernel

theorem maskHigh_iff (b : Byte) : b &&& 0xC0#8 = 0 ↔ b.toNat ≤ 0x3F := by
  revert b
  decide +kernel

theorem byte_eq_iff (b : Byte) (n : Nat) (hn : n < 256) : b = BitVec.ofNat 8 n ↔ b.toNat = n := by
  rw [← BitVec.toNat_inj, BitVec.toNat_ofNat, Nat.mod_eq_of_lt (by omega)]

/-! ## Single fields -/

theorem parseLaneUse_eq_some {b : Byte} {use : PerLane Bool} :
    parseLaneUse b = some use ↔ (1 ≤ b.toNat ∧ b.toNat ≤ 3) ∧ use = ⟨b.getLsbD 0, b.getLsbD 1⟩ := by
  rw [parseLaneUse, ← laneUse_iff, Option.ite_none_right_eq_some, Option.some.injEq, eq_comm (a := use)]

theorem parseMask_eq_some {hi lo : Byte} {mask : BitVec 14} :
    parseMask hi lo = some mask ↔ hi.toNat ≤ 0x3F ∧ mask = (join16 hi lo).setWidth 14 := by
  rw [parseMask, ← maskHigh_iff, Option.ite_none_right_eq_some, Option.some.injEq, eq_comm (a := mask)]

/-- A mask in range is the number of its two bytes. -/
theorem mask_toNat (hi lo : Byte) (h : hi.toNat ≤ 0x3F) : ((join16 hi lo).setWidth 14).toNat = 256 * hi.toNat + lo.toNat := by
  have hlo := lo.isLt
  have hj : (join16 hi lo).toNat = 256 * hi.toNat + lo.toNat := by
    rw [join16, BitVec.toNat_append, ← Nat.shiftLeft_add_eq_or_of_lt hlo, Nat.shiftLeft_eq]
    omega
  rw [BitVec.toNat_setWidth, hj]
  omega

theorem parseFlag_eq_some {b : Byte} {flag : Bool} : parseFlag b = some flag ↔ b.toNat ≤ 1 ∧ (flag = true ↔ b.toNat = 1) := by
  revert b flag
  decide +kernel

theorem parseHeadZone_eq_some {b : Byte} {zone : Option Zone} :
    parseHeadZone b = some zone ↔
      (b.toNat ≤ 31 ∨ b.toNat = 0xFF) ∧ zone = if b.toNat = 0xFF then none else some (Fin.ofNat 32 b.toNat) := by
  unfold parseHeadZone
  have hff : b = 0xFF#8 ↔ b.toNat = 0xFF := byte_eq_iff b 0xFF (by decide)
  by_cases h : b.toNat = 0xFF
  · simp [hff, h, eq_comm]
  · simp only [hff, h, if_false, or_false, Option.map_eq_some_iff, below_eq_some]
    constructor
    · rintro ⟨z, hz, rfl⟩
      have := z.isLt
      refine ⟨by omega, ?_⟩
      rw [← hz]
      simp
    · rintro ⟨hle, rfl⟩
      exact ⟨Fin.ofNat 32 b.toNat, Nat.mod_eq_of_lt (by omega), rfl⟩

theorem parseHead_eq_some {zone mask : Byte} {c : HeadConfig} :
    parseHead zone mask = some c ↔
      ((zone.toNat ≤ 31 ∨ zone.toNat = 0xFF) ∧ mask.toNat ≤ 7) ∧
        c.zone = (if zone.toNat = 0xFF then none else some (Fin.ofNat 32 zone.toNat)) ∧
        c.red = mask.getLsbD 0 ∧ c.green = mask.getLsbD 1 ∧ c.blue = mask.getLsbD 2 := by
  obtain ⟨z, r, g, b⟩ := c
  simp only [parseHead, Option.bind_eq_bind, Option.bind_eq_some_iff, parseHeadZone_eq_some, lowThree_iff,
    Option.ite_none_right_eq_some, Option.some.injEq, HeadConfig.mk.injEq]
  constructor
  · rintro ⟨z', ⟨hz, rfl⟩, hm, rfl, rfl, rfl, rfl⟩
    exact ⟨⟨hz, hm⟩, rfl, rfl, rfl, rfl⟩
  · rintro ⟨⟨hz, hm⟩, rfl, rfl, rfl, rfl⟩
    exact ⟨_, ⟨hz, rfl⟩, hm, rfl, rfl, rfl, rfl⟩

theorem parseOccupancy_eq_some {enable grace vacant percent fade : Byte} {c : OccupancyConfig} :
    parseOccupancy enable grace vacant percent fade = some c ↔
      (enable.toNat ≤ 1 ∧ percent.toNat ≤ 100) ∧
        (c.enable = true ↔ enable.toNat = 1) ∧ c.grace.val = grace.toNat ∧ c.vacant.val = vacant.toNat ∧
        c.percent = percent.toNat ∧ c.fade.val = fade.toNat := by
  obtain ⟨e, g, v, p, f⟩ := c
  simp only [parseOccupancy, Option.bind_eq_bind, Option.bind_eq_some_iff, parseFlag_eq_some, below_eq_some,
    Option.ite_none_right_eq_some, Option.some.injEq, OccupancyConfig.mk.injEq]
  constructor
  · rintro ⟨e', ⟨he, hiff⟩, g', hg, v', hv, f', hf, hp, rfl, rfl, rfl, rfl, rfl⟩
    exact ⟨⟨he, hp⟩, hiff, hg, hv, rfl, hf⟩
  · rintro ⟨⟨he, hp⟩, hiff, hg, hv, rfl, hf⟩
    exact ⟨e, ⟨he, hiff⟩, g, hg, v, hv, f, hf, hp, rfl, rfl, rfl, rfl, rfl⟩

theorem parseDefault_eq_some {switchFade level r g b : Byte} {d : ZoneDefault} :
    parseDefault switchFade level r g b = some d ↔ d.switchFade.val = switchFade.toNat ∧ d.level = level ∧ d.colour = ⟨r, g, b⟩ := by
  obtain ⟨c, l, f⟩ := d
  simp only [parseDefault, Option.map_eq_some_iff, below_eq_some, ZoneDefault.mk.injEq]
  constructor
  · rintro ⟨f', hf, rfl, rfl, rfl⟩
    exact ⟨hf, rfl, rfl⟩
  · rintro ⟨hf, rfl, rfl⟩
    exact ⟨f, hf, rfl, rfl, rfl⟩

theorem parseLook_eq_some {start count : Byte} {range : LookRange} :
    parseLook start count = some range ↔
      (start.toNat ≤ 239 ∧ count.toNat ≤ 32 ∧ start.toNat + count.toNat ≤ 240) ∧ range = ⟨start.toNat, count.toNat⟩ := by
  rw [parseLook, Option.ite_none_right_eq_some, Option.some.injEq, eq_comm (a := range)]

theorem parsePool_eq_some {zone level r g b fade : Byte} {p : PoolSetting} :
    parsePool zone level r g b fade = some p ↔
      p.zone.val = zone.toNat ∧ p.level = level ∧ p.colour = ⟨r, g, b⟩ ∧ p.fade.val = fade.toNat := by
  obtain ⟨z, c, l, f⟩ := p
  simp only [parsePool, Option.bind_eq_bind, Option.bind_eq_some_iff, below_eq_some, Option.pure_def, Option.some.injEq,
    PoolSetting.mk.injEq]
  constructor
  · rintro ⟨z', hz, f', hf, rfl, rfl, rfl, rfl⟩
    exact ⟨hz, rfl, rfl, hf⟩
  · rintro ⟨hz, rfl, rfl, hf⟩
    exact ⟨z, hz, f, hf, rfl, rfl, rfl, rfl⟩

/-! ## Inputs -/

/-- Kind, argument and step of a used input in range (R133). -/
def InputInRange (kind argument step : Nat) : Prop :=
  kind ≤ 6 ∧ (if kind = 2 then argument ≤ 15 else argument ≤ 31) ∧ (5 ≤ kind → 1 ≤ step ∧ step ≤ 64)

/-- A byte read as a number below `n`, spelled by the byte. -/
theorem below_eq_some_ofNat {n : Nat} [NeZero n] {b : Byte} {x : Fin n} : below n b = some x ↔ b.toNat < n ∧ x = Fin.ofNat n b.toNat := by
  rw [below_eq_some, Fin.ext_iff, Fin.val_ofNat]
  have := x.isLt
  constructor
  · intro h
    exact ⟨by omega, by rw [Nat.mod_eq_of_lt (by omega), h]⟩
  · rintro ⟨hlt, h⟩
    rw [h, Nat.mod_eq_of_lt hlt]

theorem kind_cases (kind : Byte) (h : kind.toNat ≠ 0) :
    kind = 1#8 ∨ kind = 2#8 ∨ kind = 3#8 ∨ kind = 4#8 ∨ kind = 5#8 ∨ kind = 6#8 ∨ 6 < kind.toNat := by
  revert kind
  decide +kernel

/-- The kind of a used input is read where kind, argument and step are in range, and is the one its code names. -/
theorem parseInputKind_eq_some {m : Memory} {a : Nat} {k : InputKind} (hk : numberAt m a ≠ 0) :
    parseInputKind (Memory.read m a) (Memory.read m (a + 1)) (Memory.read m (a + 2)) = some k ↔
      InputInRange (numberAt m a) (numberAt m (a + 1)) (numberAt m (a + 2)) ∧ k = inputKindAt m a := by
  unfold inputKindAt numberAt at *
  generalize Memory.read m a = kind at *
  generalize Memory.read m (a + 1) = argument
  generalize Memory.read m (a + 2) = step
  rcases kind_cases kind hk with rfl | rfl | rfl | rfl | rfl | rfl | hbig
  case inr.inr.inr.inr.inr.inr =>
    have hne (n : Nat) (hn : n < 256) (h6 : n ≤ 6) : kind ≠ BitVec.ofNat 8 n := fun h => by
      rw [byte_eq_iff kind n hn] at h
      omega
    have hnone : parseInputKind kind argument step = none := by
      simp [parseInputKind, parseSwitch, parseAction, hne 1, hne 2, hne 3, hne 4, hne 5, hne 6]
    have hr : ¬ InputInRange kind.toNat argument.toNat step.toNat := fun h => absurd h.1 (by omega)
    simp [hnone, hr]
  all_goals
    simp [parseInputKind, parseSwitch, parseAction, InputInRange, Option.bind_eq_some_iff, below_eq_some_ofNat, Nat.lt_succ_iff,
      eq_comm (a := k), and_assoc]

/-- An input record that is read: in range as far as its kind says, with the kind its code names (R133). -/
theorem parseInput_eq_some {m : Memory} {a : Nat} {c : InputConfig}
    (h : parseInput (Memory.read m a) (Memory.read m (a + 1)) (Memory.read m (a + 2)) (Memory.read m (a + 3)) = some c) :
    (numberAt m a = 0 ∨ (InputInRange (numberAt m a) (numberAt m (a + 1)) (numberAt m (a + 2)) ∧ numberAt m (a + 3) ≤ 7)) ∧
      c.kind = inputKindAt m a ∧
      (numberAt m a ≠ 0 → c.activeLow = (Memory.read m (a + 3)).getLsbD 0 ∧ c.debounce.val = numberAt m (a + 3) / 2) := by
  have hzero : Memory.read m a = 0 ↔ numberAt m a = 0 := byte_eq_iff _ 0 (by decide)
  by_cases hk : numberAt m a = 0
  · rw [parseInput, if_pos (hzero.mpr hk), Option.some.injEq] at h
    subst h
    exact ⟨.inl hk, by simp [InputConfig.unused, inputKindAt, hk], fun hn => absurd hk hn⟩
  · simp only [parseInput, hzero, hk, if_false, Option.bind_eq_bind, Option.bind_eq_some_iff, parseInputKind_eq_some hk, lowThree_iff,
      Option.ite_none_right_eq_some, Option.some.injEq] at h
    obtain ⟨k, ⟨hrange, rfl⟩, ho, rfl⟩ := h
    exact ⟨.inr ⟨hrange, ho⟩, rfl, fun _ => ⟨rfl, by simp only [numberAt]; omega⟩⟩

/-- An input record in range is read. -/
theorem parseInput_inRange {m : Memory} {a : Nat}
    (h : numberAt m a = 0 ∨ (InputInRange (numberAt m a) (numberAt m (a + 1)) (numberAt m (a + 2)) ∧ numberAt m (a + 3) ≤ 7)) :
    ∃ c, parseInput (Memory.read m a) (Memory.read m (a + 1)) (Memory.read m (a + 2)) (Memory.read m (a + 3)) = some c := by
  have hzero : Memory.read m a = 0 ↔ numberAt m a = 0 := byte_eq_iff _ 0 (by decide)
  by_cases hk : numberAt m a = 0
  · exact ⟨_, by rw [parseInput, if_pos (hzero.mpr hk)]⟩
  · obtain ⟨hrange, ho⟩ := h.resolve_left hk
    have hkind := (parseInputKind_eq_some (k := inputKindAt m a) hk).mpr ⟨hrange, rfl⟩
    have ho' : Memory.read m (a + 3) &&& 0xF8#8 = 0 := (lowThree_iff _).mpr ho
    exact ⟨_, by rw [parseInput, if_neg (fun hz => hk (hzero.mp hz)), hkind, Option.bind_eq_bind, Option.bind_some, if_pos ho']⟩

/-! ## Tables and looks -/

/-- A table is collected where every entry is there. -/
theorem collect_eq_some {α : Type} {n : Nat} {absent : α} {f : Fin n → Option α} {v : Vector α n} :
    collect n absent f = some v ↔ ∀ i : Fin n, f i = some v[i] := by
  unfold collect
  constructor
  · intro h i
    rw [Option.ite_none_right_eq_some, Option.some.injEq] at h
    obtain ⟨hall, rfl⟩ := h
    obtain ⟨x, hx⟩ := Option.isSome_iff_exists.mp (List.all_eq_true.mp hall i (List.mem_finRange i))
    rw [tabulate_get, hx, Option.getD_some]
  · intro h
    rw [if_pos (List.all_eq_true.mpr fun i _ => by rw [h i]; rfl)]
    refine congrArg some (table_ext _ _ fun i => ?_)
    rw [tabulate_get, h i, Option.getD_some]

/-- Entries that are all there make a table. -/
theorem exists_table {α : Type} {n : Nat} {f : Fin n → Option α} (h : ∀ i, ∃ x, f i = some x) :
    ∃ v : Vector α n, ∀ i : Fin n, f i = some v[i] := by
  choose x hx using h
  exact ⟨tabulate n x, fun i => by rw [tabulate_get, hx i]⟩

theorem looksDistinct_iff (lib : LookLibrary) :
    looksDistinct lib = true ↔ ∀ k : Look, (rangeZones lib.pool lib.directory[k]).Nodup := by
  rw [looksDistinct, List.all_eq_true]
  constructor
  · intro h k
    exact of_decide_eq_true (h _ (by simp))
  · intro h range hr
    obtain ⟨k, hk, rfl⟩ := List.getElem_of_mem hr
    exact decide_eq_true (h ⟨k, by simpa using hk⟩)

/-- The zones of a range that lies in the pool, as numbers. -/
theorem rangeZones_numbers (m : Memory) (pool : Vector PoolSetting 240) (range : LookRange) (hr : range.start + range.count ≤ 240)
    (hp : ∀ p : Fin 240, pool[p].zone.val = numberAt m (0x1A1 + 6 * p.val)) :
    (rangeZones pool range).map Fin.val = (List.range range.count).map fun i => numberAt m (0x1A1 + 6 * (range.start + i)) := by
  apply List.ext_getElem
  · simp [rangeZones]
    omega
  · intro i h1 h2
    have hi : i < range.count := by simpa using h2
    have := hp ⟨range.start + i, by omega⟩
    simpa [rangeZones] using this

/-- The zones of a range are distinct exactly where their numbers are. -/
theorem rangeZones_nodup (m : Memory) (pool : Vector PoolSetting 240) (range : LookRange) (hr : range.start + range.count ≤ 240)
    (hp : ∀ p : Fin 240, pool[p].zone.val = numberAt m (0x1A1 + 6 * p.val)) :
    (rangeZones pool range).Nodup ↔
      ((List.range range.count).map fun i => numberAt m (0x1A1 + 6 * (range.start + i))).Nodup := by
  rw [← rangeZones_numbers m pool range hr hp, List.nodup_map_iff Fin.val_injective]

/-! ## The whole configuration -/

/-- Every field of a configuration as its parser reads it (R165, test 3, at the addresses of R193). -/
structure FieldsRead (m : Memory) (c : Configuration) : Prop where
  station : below 32 (Memory.read m 0x002) = some c.station
  laneUse : parseLaneUse (Memory.read m 0x003) = some c.laneUse
  rate : below 4 (Memory.read m 0x004) = some c.rate
  mask : parseMask (Memory.read m 0x005) (Memory.read m 0x006) = some c.mask
  heads : ∀ h : Head, parseHead (byteAt m 0x007 2 h.val) (byteAt m 0x008 2 h.val) = some c.heads[h]
  inputs : ∀ i : Line,
    parseInput (byteAt m 0x00F 4 i.val) (byteAt m 0x010 4 i.val) (byteAt m 0x011 4 i.val) (byteAt m 0x012 4 i.val) = some c.inputs[i]
  presence : below 4 (Memory.read m 0x040) = some c.presence
  occupancy : ∀ z : Zone,
    parseOccupancy (byteAt m 0x041 10 z.val) (byteAt m 0x042 10 z.val) (byteAt m 0x043 10 z.val) (byteAt m 0x044 10 z.val)
      (byteAt m 0x045 10 z.val) = some c.occupancy[z]
  defaults : ∀ z : Zone,
    parseDefault (byteAt m 0x046 10 z.val) (byteAt m 0x047 10 z.val) (byteAt m 0x048 10 z.val) (byteAt m 0x049 10 z.val)
      (byteAt m 0x04A 10 z.val) = some c.defaults[z]
  directory : ∀ k : Look, parseLook (byteAt m 0x181 2 k.val) (byteAt m 0x182 2 k.val) = some c.library.directory[k]
  pool : ∀ p : Fin 240,
    parsePool (byteAt m 0x1A1 6 p.val) (byteAt m 0x1A2 6 p.val) (byteAt m 0x1A3 6 p.val) (byteAt m 0x1A4 6 p.val)
      (byteAt m 0x1A5 6 p.val) (byteAt m 0x1A6 6 p.val) = some c.library.pool[p]
  distinct : looksDistinct c.library = true
  checksum : c.checksum = join16 (Memory.read m 0x741) (Memory.read m 0x742)

theorem readLibrary_eq_some {m : Memory} {lib : LookLibrary} :
    readLibrary m = some lib ↔
      (∀ k : Look, parseLook (byteAt m 0x181 2 k.val) (byteAt m 0x182 2 k.val) = some lib.directory[k]) ∧
      (∀ p : Fin 240,
        parsePool (byteAt m 0x1A1 6 p.val) (byteAt m 0x1A2 6 p.val) (byteAt m 0x1A3 6 p.val) (byteAt m 0x1A4 6 p.val)
          (byteAt m 0x1A5 6 p.val) (byteAt m 0x1A6 6 p.val) = some lib.pool[p]) ∧
      looksDistinct lib = true := by
  obtain ⟨directory, pool⟩ := lib
  simp only [readLibrary, Option.bind_eq_bind, Option.bind_eq_some_iff, collect_eq_some, Option.ite_none_right_eq_some, Option.some.injEq,
    LookLibrary.mk.injEq]
  constructor
  · rintro ⟨d, hd, p, hp, hl, rfl, rfl⟩
    exact ⟨hd, hp, hl⟩
  · rintro ⟨hd, hp, hl⟩
    exact ⟨directory, hd, pool, hp, hl, rfl, rfl⟩

/-- The configuration is read exactly where each of its fields is. -/
theorem readConfiguration_eq_some {m : Memory} {c : Configuration} : readConfiguration m = some c ↔ FieldsRead m c := by
  simp only [readConfiguration, Option.bind_eq_bind, Option.bind_eq_some_iff, collect_eq_some, readLibrary_eq_some, Option.pure_def,
    Option.some.injEq]
  constructor
  · rintro ⟨_, h1, _, h2, _, h3, _, h4, _, h5, _, h6, _, h7, _, h8, _, h9, _, ⟨h10, h11, h12⟩, rfl⟩
    exact ⟨h1, h2, h3, h4, h5, h6, h7, h8, h9, h10, h11, h12, rfl⟩
  · intro h
    exact ⟨_, h.station, _, h.laneUse, _, h.rate, _, h.mask, _, h.heads, _, h.inputs, _, h.presence, _, h.occupancy, _, h.defaults, _,
      ⟨h.directory, h.pool, h.distinct⟩, by rw [← h.checksum]⟩

/-- The four bytes of an input's record stand one after another (R193). -/
theorem inputBytes (m : Memory) (i : Nat) :
    byteAt m 0x010 4 i = Memory.read m (0x00F + 4 * i + 1) ∧ byteAt m 0x011 4 i = Memory.read m (0x00F + 4 * i + 2) ∧
      byteAt m 0x012 4 i = Memory.read m (0x00F + 4 * i + 3) := by
  refine ⟨?_, ?_, ?_⟩ <;> exact congrArg (Memory.read m) (by omega)

/-- An input's record that is read, at its addresses. -/
theorem FieldsRead.input {m : Memory} {c : Configuration} (h : FieldsRead m c) (i : Line) :
    (numberAt m (0x00F + 4 * i.val) = 0 ∨
      (InputInRange (numberAt m (0x00F + 4 * i.val)) (byteAt m 0x010 4 i.val).toNat (byteAt m 0x011 4 i.val).toNat ∧
        (byteAt m 0x012 4 i.val).toNat ≤ 7)) ∧
      c.inputs[i].kind = inputKindAt m (0x00F + 4 * i.val) ∧
      (numberAt m (0x00F + 4 * i.val) ≠ 0 →
        c.inputs[i].activeLow = (byteAt m 0x012 4 i.val).getLsbD 0 ∧
          c.inputs[i].debounce.val = (byteAt m 0x012 4 i.val).toNat / 2) := by
  obtain ⟨h1, h2, h3⟩ := inputBytes m i.val
  have hi := h.inputs i
  rw [h1, h2, h3] at hi ⊢
  exact parseInput_eq_some hi

theorem FieldsRead.lookRange {m : Memory} {c : Configuration} (h : FieldsRead m c) (k : Look) :
    (numberAt m (0x181 + 2 * k.val) ≤ 239 ∧ numberAt m (0x182 + 2 * k.val) ≤ 32 ∧
      numberAt m (0x181 + 2 * k.val) + numberAt m (0x182 + 2 * k.val) ≤ 240) ∧
    c.library.directory[k] = { start := numberAt m (0x181 + 2 * k.val), count := numberAt m (0x182 + 2 * k.val) } :=
  parseLook_eq_some.mp (h.directory k)

theorem FieldsRead.poolZone {m : Memory} {c : Configuration} (h : FieldsRead m c) (p : Fin 240) :
    c.library.pool[p].zone.val = numberAt m (0x1A1 + 6 * p.val) := (parsePool_eq_some.mp (h.pool p)).1

/-- Only fields in range are read. -/
theorem FieldsRead.inRange {m : Memory} {c : Configuration} (h : FieldsRead m c) : FieldsInRange m where
  station := by
    have := below_eq_some.mp h.station
    have := c.station.isLt
    unfold numberAt
    omega
  laneUse := (parseLaneUse_eq_some.mp h.laneUse).1
  rate := by
    have := below_eq_some.mp h.rate
    have := c.rate.isLt
    unfold numberAt
    omega
  mask := (parseMask_eq_some.mp h.mask).1
  heads i := (parseHead_eq_some.mp (h.heads i)).1
  inputs i := by
    rcases (h.input i).1 with h0 | ⟨⟨hk, ha, hs⟩, ho⟩
    · exact .inl h0
    · exact .inr ⟨hk, ha, hs, ho⟩
  presence := by
    have := below_eq_some.mp h.presence
    have := c.presence.isLt
    unfold numberAt
    omega
  zones z := by
    obtain ⟨⟨he, hp⟩, -, hg, hv, -, hf⟩ := parseOccupancy_eq_some.mp (h.occupancy z)
    obtain ⟨hs, -, -⟩ := parseDefault_eq_some.mp (h.defaults z)
    have := (c.occupancy[z]).grace.isLt
    have := (c.occupancy[z]).vacant.isLt
    have := (c.occupancy[z]).fade.isLt
    have := (c.defaults[z]).switchFade.isLt
    unfold byteAt at *
    unfold numberAt
    omega
  directory k := (h.lookRange k).1
  pool p := by
    obtain ⟨hz, -, -, hf⟩ := parsePool_eq_some.mp (h.pool p)
    have := (c.library.pool[p]).zone.isLt
    have := (c.library.pool[p]).fade.isLt
    unfold byteAt at *
    unfold numberAt
    omega
  distinct k := by
    obtain ⟨⟨-, -, hle⟩, hd⟩ := h.lookRange k
    have hn := (looksDistinct_iff c.library).mp h.distinct k
    rw [hd] at hn
    exact (rangeZones_nodup m _ _ hle h.poolZone).mp hn

/-- What is read is what the bytes hold. -/
theorem FieldsRead.holds {m : Memory} {c : Configuration} (h : FieldsRead m c) : HoldsConfiguration m c where
  station := below_eq_some.mp h.station
  laneUse L := by
    rw [(parseLaneUse_eq_some.mp h.laneUse).2]
    cases L <;> rfl
  rate := below_eq_some.mp h.rate
  mask := by
    obtain ⟨hle, hm⟩ := parseMask_eq_some.mp h.mask
    rw [hm]
    exact mask_toNat _ _ hle
  heads i := (parseHead_eq_some.mp (h.heads i)).2
  inputs i := (h.input i).2
  presence := below_eq_some.mp h.presence
  occupancy z := (parseOccupancy_eq_some.mp (h.occupancy z)).2
  defaults z := parseDefault_eq_some.mp (h.defaults z)
  directory k := (h.lookRange k).2
  pool p := parsePool_eq_some.mp (h.pool p)
  checksum := h.checksum

theorem FieldsInRange.exists_head {m : Memory} (h : FieldsInRange m) (i : Head) :
    ∃ c, parseHead (byteAt m 0x007 2 i.val) (byteAt m 0x008 2 i.val) = some c :=
  ⟨⟨_, _, _, _⟩, parseHead_eq_some.mpr ⟨h.heads i, rfl, rfl, rfl, rfl⟩⟩

theorem FieldsInRange.exists_input {m : Memory} (h : FieldsInRange m) (i : Line) :
    ∃ c, parseInput (byteAt m 0x00F 4 i.val) (byteAt m 0x010 4 i.val) (byteAt m 0x011 4 i.val) (byteAt m 0x012 4 i.val) = some c := by
  obtain ⟨h1, h2, h3⟩ := inputBytes m i.val
  rw [h1, h2, h3]
  refine parseInput_inRange ?_
  unfold numberAt
  rw [← h1, ← h2, ← h3]
  rcases h.inputs i with h0 | ⟨hk, ha, hs, ho⟩
  · exact .inl h0
  · exact .inr ⟨⟨hk, ha, hs⟩, ho⟩

theorem FieldsInRange.exists_occupancy {m : Memory} (h : FieldsInRange m) (z : Zone) :
    ∃ c, parseOccupancy (byteAt m 0x041 10 z.val) (byteAt m 0x042 10 z.val) (byteAt m 0x043 10 z.val) (byteAt m 0x044 10 z.val)
      (byteAt m 0x045 10 z.val) = some c := by
  obtain ⟨he, hg, hv, hp, hf, -⟩ := h.zones z
  exact ⟨⟨_, ⟨_, Nat.lt_succ_of_le hg⟩, ⟨_, Nat.lt_succ_of_le hv⟩, _, ⟨_, Nat.lt_succ_of_le hf⟩⟩,
    parseOccupancy_eq_some.mpr ⟨⟨he, hp⟩, decide_eq_true_iff, rfl, rfl, rfl, rfl⟩⟩

theorem FieldsInRange.exists_default {m : Memory} (h : FieldsInRange m) (z : Zone) :
    ∃ d, parseDefault (byteAt m 0x046 10 z.val) (byteAt m 0x047 10 z.val) (byteAt m 0x048 10 z.val) (byteAt m 0x049 10 z.val)
      (byteAt m 0x04A 10 z.val) = some d := by
  obtain ⟨-, -, -, -, -, hs⟩ := h.zones z
  exact ⟨⟨_, _, ⟨_, Nat.lt_succ_of_le hs⟩⟩, parseDefault_eq_some.mpr ⟨rfl, rfl, rfl⟩⟩

theorem FieldsInRange.exists_look {m : Memory} (h : FieldsInRange m) (k : Look) :
    ∃ range, parseLook (byteAt m 0x181 2 k.val) (byteAt m 0x182 2 k.val) = some range :=
  ⟨_, parseLook_eq_some.mpr ⟨h.directory k, rfl⟩⟩

theorem FieldsInRange.exists_setting {m : Memory} (h : FieldsInRange m) (p : Fin 240) :
    ∃ x, parsePool (byteAt m 0x1A1 6 p.val) (byteAt m 0x1A2 6 p.val) (byteAt m 0x1A3 6 p.val) (byteAt m 0x1A4 6 p.val)
      (byteAt m 0x1A5 6 p.val) (byteAt m 0x1A6 6 p.val) = some x := by
  obtain ⟨hz, hf⟩ := h.pool p
  exact ⟨⟨⟨_, Nat.lt_succ_of_le hz⟩, _, _, ⟨_, Nat.lt_succ_of_le hf⟩⟩, parsePool_eq_some.mpr ⟨rfl, rfl, rfl, rfl⟩⟩

/-- The Look Library of fields in range is read. -/
theorem FieldsInRange.exists_library {m : Memory} (h : FieldsInRange m) : ∃ lib, readLibrary m = some lib := by
  obtain ⟨directory, hd⟩ := exists_table h.exists_look
  obtain ⟨pool, hp⟩ := exists_table h.exists_setting
  refine ⟨⟨directory, pool⟩, readLibrary_eq_some.mpr ⟨hd, hp, (looksDistinct_iff _).mpr fun k => ?_⟩⟩
  obtain ⟨⟨-, -, hle⟩, hk⟩ := parseLook_eq_some.mp (hd k)
  rw [hk]
  exact (rangeZones_nodup m _ _ hle fun p => (parsePool_eq_some.mp (hp p)).1).mpr (h.distinct k)

/-- Fields in range are read. -/
theorem FieldsInRange.exists_read {m : Memory} (h : FieldsInRange m) : ∃ c, FieldsRead m c := by
  obtain ⟨heads, hheads⟩ := exists_table h.exists_head
  obtain ⟨inputs, hinputs⟩ := exists_table h.exists_input
  obtain ⟨occupancy, hoccupancy⟩ := exists_table h.exists_occupancy
  obtain ⟨defaults, hdefaults⟩ := exists_table h.exists_default
  obtain ⟨library, hlibrary⟩ := h.exists_library
  obtain ⟨hdirectory, hpool, hdistinct⟩ := readLibrary_eq_some.mp hlibrary
  exact ⟨{ station := _, laneUse := _, rate := _, mask := _, heads := heads, inputs := inputs, presence := _,
           defaults := defaults, occupancy := occupancy, library := library, checksum := _ },
    { station := below_inRange (Nat.lt_succ_of_le h.station)
      laneUse := parseLaneUse_eq_some.mpr ⟨h.laneUse, rfl⟩
      rate := below_inRange (Nat.lt_succ_of_le h.rate)
      mask := parseMask_eq_some.mpr ⟨h.mask, rfl⟩
      heads := hheads
      inputs := hinputs
      presence := below_inRange (Nat.lt_succ_of_le h.presence)
      occupancy := hoccupancy
      defaults := hdefaults
      directory := hdirectory
      pool := hpool
      distinct := hdistinct
      checksum := rfl }⟩

theorem readConfiguration_eq_none {m : Memory} (h : ¬ FieldsInRange m) : readConfiguration m = none :=
  Option.eq_none_iff_forall_not_mem.mpr fun _ hc => h (readConfiguration_eq_some.mp hc).inRange

/-! ## The tests in order -/

/-- The CRC at an address, high byte first, is that of the bytes of a region. -/
def CrcGood (m : Memory) (address first count : Nat) : Prop :=
  Memory.read m address ++ Memory.read m (address + 1) = crc16 (Memory.slice m first count)

theorem validate_invalid_node {m : Memory} (hn : ¬ CrcGood m 0x03E 0x002 60) : validate m = .invalid .node := if_pos hn

theorem validate_invalid_library {m : Memory} (hn : CrcGood m 0x03E 0x002 60) (hl : ¬ CrcGood m 0x741 0x040 1793) :
    validate m = .invalid .library := (if_neg (not_not.mpr hn)).trans (if_pos hl)

/-- With both CRCs good the fields decide. -/
theorem validate_fields {m : Memory} (hn : CrcGood m 0x03E 0x002 60) (hl : CrcGood m 0x741 0x040 1793) :
    validate m = (readConfiguration m).elim (.invalid .field) .valid := by
  refine (if_neg (not_not.mpr hn)).trans ((if_neg (not_not.mpr hl)).trans ?_)
  cases readConfiguration m <;> rfl

theorem extractLsb'_low (w : Word16) : w.extractLsb' 0 8 = w.setWidth 8 := by
  apply BitVec.eq_of_toNat_eq
  simp

/-- LOADING_READ_DONE while the store is read. -/
theorem exec_loadingReadDone (s : State) (hphase : s.node.phase = .loading) (hreading : s.node.loading = .reading) :
    exec .loadingReadDone s = .next
      { s with
          node := { s.node with
            startCounter := join16 (Memory.read s.store.array 0) (Memory.read s.store.array 1) + 1
            startTag := (join16 (Memory.read s.store.array 0) (Memory.read s.store.array 1) + 1).setWidth 8
            loading := .checked (validate s.store.array) }
          store := { s.store with
            write := .writing 0 ((join16 (Memory.read s.store.array 0) (Memory.read s.store.array 1) + 1).extractLsb' 8 8) writeTime } } := by
  rw [← extractLsb'_low]
  exact if_pos ⟨hphase, hreading⟩

/-- Settles O50: the equation of LOADING_READ_DONE, and validation test by test, the last through the fields it reads. -/
theorem loadingAdvancesTheStartCounter : Obligations.LoadingAdvancesTheStartCounter := by
  refine ⟨fun s hphase hreading => exec_loadingReadDone s hphase hreading, fun m => ⟨?_, ?_, ?_, ?_⟩⟩
  · exact validate_invalid_node
  · exact validate_invalid_library
  · intro hn hl hf
    rw [validate_fields hn hl, readConfiguration_eq_none hf, Option.elim_none]
  · intro hn hl hf
    obtain ⟨c, hc⟩ := hf.exists_read
    exact ⟨c, by rw [validate_fields hn hl, readConfiguration_eq_some.mpr hc, Option.elim_some], hc.holds⟩

end Sys2Proof.Machine
end

section
/-! The verdicts of the Duplicate Filter and what they leave in the entry: O25 and O26. -/

namespace Sys2Proof.Machine

open Sys2Proof

/-! ## Distances between sequences -/

/-- One sequence is as far behind another as that one is ahead of it, going round the 65536. -/
theorem forward_of_behind {x y : Word16} (h : 1 ≤ (y - x).toNat) : (x - y).toNat = 65536 - (y - x).toNat := by
  bv_omega

/-- Counted from a base, a sequence that is not further on than another is behind it by the difference. -/
theorem behind_of_le {base x y : Word16} (h : (x - base).toNat ≤ (y - base).toNat) :
    (y - x).toNat = (y - base).toNat - (x - base).toNat := by
  bv_omega

/-- Within one stretch of 32768, a sequence found ahead of another is further on by the distance. -/
theorem further_of_forward {base x y : Word16} (hx : (x - base).toNat ≤ 32767) (hd : (y - x).toNat ≤ 32767) :
    (y - base).toNat = (x - base).toNat + (y - x).toNat := by
  bv_omega

/-! ## The window -/

/-- The window with one mark, at position `d`. -/
theorem mark_getLsbD (d k : Nat) (hd : 1 ≤ d) (hk : 1 ≤ k) (hk31 : k ≤ 31) :
    (BitVec.ofNat 31 (2 ^ (d - 1))).getLsbD (k - 1) = decide (k = d) := by
  rw [BitVec.getLsbD_ofNat, Nat.testBit_two_pow, decide_eq_true (by omega : k - 1 < 31), Bool.true_and]
  exact decide_eq_decide.mpr (by omega)

/-- After a move by `d` the old highest's mark stands at `d`, and every older mark `d` further on (R55). -/
theorem moveWindow_getLsbD (w : BitVec 31) (d k : Nat) (hd : 1 ≤ d) (hk : 1 ≤ k) (hk31 : k ≤ 31) :
    (moveWindow w d).getLsbD (k - 1) = (decide (k = d) || (decide (d < k) && w.getLsbD (k - d - 1))) := by
  have hplace : k - 1 - d = k - d - 1 := by omega
  have hmark : (if d ≤ 31 then BitVec.ofNat 31 (2 ^ (d - 1)) else 0).getLsbD (k - 1) = decide (k = d) := by
    split
    · exact mark_getLsbD d k hd hk hk31
    · next h => simp [show k ≠ d by omega]
  have hshift : (w <<< d).getLsbD (k - 1) = (decide (d < k) && w.getLsbD (k - d - 1)) := by
    rw [BitVec.getLsbD_shiftLeft, hplace, decide_eq_true (by omega : k - 1 < 31), Bool.true_and, ← decide_not]
    congr 1
    exact decide_eq_decide.mpr (by omega)
  rw [moveWindow, BitVec.getLsbD_or, hmark, hshift, Bool.or_comm]

/-! ## What is left in the entry -/

theorem measureSkew_seen {L : Lane} {e : OriginEntry} (now : Word32) (h : e.lanesSeen.get L = true) : measureSkew L now e = e :=
  if_pos h

theorem measureSkew_new {L : Lane} {e : OriginEntry} (now : Word32) (h : e.lanesSeen.get L = false) :
    measureSkew L now e =
      { e with lanesSeen := e.lanesSeen.put L true,
               worstSkew := BitVec.ofNat 8 (max e.worstSkew.toNat (min 255 (now - e.firstCopy).toNat)) } :=
  if_neg (by simp [h])

/-- A measured skew is no matter to later verdicts. -/
@[simp] theorem measureSkew_frame (L : Lane) (now : Word32) (e : OriginEntry) :
    (measureSkew L now e).active = e.active ∧ (measureSkew L now e).startTag = e.startTag ∧
    (measureSkew L now e).highest = e.highest ∧ (measureSkew L now e).window = e.window := by
  unfold measureSkew
  split <;> exact ⟨rfl, rfl, rfl, rfl⟩

/-- A miss is counted for Lane A where the old highest was seen on Lane B alone (R56). -/
theorem countMiss_a (up : PerLane Bool) (e : OriginEntry) :
    (countMiss up e).a = if e.lanesSeen = ⟨false, true⟩ ∧ up.a = true then saturate255 e.laneMiss.a else e.laneMiss.a := by
  rcases hseen : e.lanesSeen with ⟨a, b⟩
  cases a <;> cases b <;> simp [countMiss, hseen, apply_ite PerLane.a]

/-- A miss is counted for Lane B where the old highest was seen on Lane A alone (R56). -/
theorem countMiss_b (up : PerLane Bool) (e : OriginEntry) :
    (countMiss up e).b = if e.lanesSeen = ⟨true, false⟩ ∧ up.b = true then saturate255 e.laneMiss.b else e.laneMiss.b := by
  rcases hseen : e.lanesSeen with ⟨a, b⟩
  cases a <;> cases b <;> simp [countMiss, hseen, apply_ite PerLane.b]

/-! ## The rows of R50's table -/

/-- The frame is of the session that the entry stands for. -/
structure InSession (f : Frame) (e : OriginEntry) : Prop where
  active : e.active = true
  tag : f.startTag = e.startTag

theorem inSession_of_ahead {f : Frame} {e : OriginEntry} (h : e.active = true) (ht : (f.startTag - e.startTag).toNat = 0) :
    InSession f e :=
  ⟨h, by bv_omega⟩

/-- The entry with the mark set for a frame `k` places behind its highest (R57). -/
def markEntry (k : Nat) (e : OriginEntry) : OriginEntry := { e with window := e.window ||| BitVec.ofNat 31 (2 ^ (k - 1)) }

theorem markEntry_getLsbD (e : OriginEntry) (d k : Nat) (hd : 1 ≤ d) (hk : 1 ≤ k) (hk31 : k ≤ 31) :
    (markEntry d e).window.getLsbD (k - 1) = (decide (k = d) || e.window.getLsbD (k - 1)) := by
  rw [markEntry, BitVec.getLsbD_or, mark_getLsbD d k hd hk hk31, Bool.or_comm]

section
variable (L : Lane) {f : Frame} (now : Word32) (up : PerLane Bool) {e : OriginEntry}

theorem judge_empty (h : e.active = false) : judge L f now up e = (.accepted, openEntry L f now e) := if_pos h

theorem judge_newerSession (h : e.active = true) (h1 : 1 ≤ (f.startTag - e.startTag).toNat)
    (h127 : (f.startTag - e.startTag).toNat ≤ 127) : judge L f now up e = (.restarted, openEntry L f now e) := by
  simp only [judge, h, h1, h127, reduceCtorEq, if_false, and_self, if_true]

theorem judge_olderSession (h : e.active = true) (h128 : 128 ≤ (f.startTag - e.startTag).toNat) :
    judge L f now up e = (.stale, e) := by
  have hnewer : ¬(1 ≤ (f.startTag - e.startTag).toNat ∧ (f.startTag - e.startTag).toNat ≤ 127) := by omega
  simp only [judge, h, hnewer, h128, reduceCtorEq, if_false, if_true]

/-- Within the session the sequence decides. -/
theorem judge_session (h : InSession f e) :
    judge L f now up e =
      if (f.sequence - e.highest).toNat = 0 then (.duplicate, measureSkew L now e)
      else if (f.sequence - e.highest).toNat ≤ 32767 then
        (.accepted, advanceEntry L f now up (f.sequence - e.highest).toNat e)
      else if (e.highest - f.sequence).toNat ≤ 31 then
        if e.window.getLsbD ((e.highest - f.sequence).toNat - 1) then (.duplicate, e)
        else (.accepted, markEntry (e.highest - f.sequence).toNat e)
      else (.stale, e) := by
  have ht : (f.startTag - e.startTag).toNat = 0 := by simp [h.tag]
  simp only [judge, markEntry, h.active, ht, reduceCtorEq, if_false, Nat.reduceLeDiff, false_and]

theorem judge_highest (h : InSession f e) (hd : (f.sequence - e.highest).toNat = 0) :
    judge L f now up e = (.duplicate, measureSkew L now e) := by
  rw [judge_session L now up h, if_pos hd]

theorem judge_ahead (h : InSession f e) (h1 : 1 ≤ (f.sequence - e.highest).toNat)
    (hd : (f.sequence - e.highest).toNat ≤ 32767) :
    judge L f now up e = (.accepted, advanceEntry L f now up (f.sequence - e.highest).toNat e) := by
  rw [judge_session L now up h, if_neg (by omega), if_pos hd]

theorem judge_marked (h : InSession f e) (h1 : 1 ≤ (e.highest - f.sequence).toNat) (hk : (e.highest - f.sequence).toNat ≤ 31)
    (hw : e.window.getLsbD ((e.highest - f.sequence).toNat - 1) = true) : judge L f now up e = (.duplicate, e) := by
  have hd := forward_of_behind h1
  rw [judge_session L now up h, if_neg (by omega), if_neg (by omega), if_pos hk, if_pos hw]

theorem judge_unmarked (h : InSession f e) (h1 : 1 ≤ (e.highest - f.sequence).toNat) (hk : (e.highest - f.sequence).toNat ≤ 31)
    (hw : e.window.getLsbD ((e.highest - f.sequence).toNat - 1) = false) :
    judge L f now up e = (.accepted, markEntry (e.highest - f.sequence).toNat e) := by
  have hd := forward_of_behind h1
  rw [judge_session L now up h, if_neg (by omega), if_neg (by omega), if_pos hk, if_neg (Bool.eq_false_iff.mp hw)]

theorem judge_tooOld (h : InSession f e) (h32 : 32 ≤ (e.highest - f.sequence).toNat)
    (hk : (e.highest - f.sequence).toNat ≤ 32768) : judge L f now up e = (.stale, e) := by
  have hd := forward_of_behind (show 1 ≤ (e.highest - f.sequence).toNat by omega)
  rw [judge_session L now up h, if_neg (by omega), if_neg (by omega), if_neg (by omega)]

/-- A frame of another session, or of an EMPTY entry, opens the entry anew or is stale. -/
theorem judge_otherSession (h : ¬ InSession f e) :
    (judge L f now up e).2 = openEntry L f now e ∨ judge L f now up e = (.stale, e) := by
  cases ha : e.active with
  | false => exact .inl (by rw [judge_empty L now up ha])
  | true =>
    have ht : (f.startTag - e.startTag).toNat ≠ 0 := fun ht => h (inSession_of_ahead ha ht)
    by_cases h127 : (f.startTag - e.startTag).toNat ≤ 127
    · exact .inl (by rw [judge_newerSession L now up ha (by omega) h127])
    · exact .inr (judge_olderSession L now up ha (by omega))

end

/-- Settles O25: each row by its lemma, and the entry by what the row's operation leaves. -/
theorem filterJudgesByTagAndSequence : Obligations.FilterJudgesByTagAndSequence := by
  unfold Obligations.FilterJudgesByTagAndSequence
  intro L f now up e ahead forward behind opened
  refine ⟨judge_empty L now up, judge_newerSession L now up, judge_olderSession L now up, fun ha ht hd => ?highest,
    fun ha ht h1 hd => ?further, fun ha ht h1 hk hw => ?marked, fun ha ht h1 hk hw => ?unmarked, fun ha ht h32 hk => ?tooOld⟩
  case highest =>
    rw [judge_highest L now up (inSession_of_ahead ha ht) hd]
    exact ⟨rfl, measureSkew_seen now, measureSkew_new now⟩
  case further =>
    rw [judge_ahead L now up (inSession_of_ahead ha ht) h1 hd]
    exact ⟨rfl, rfl, rfl, rfl, fun k => moveWindow_getLsbD e.window forward k h1, countMiss_a up e, countMiss_b up e⟩
  case marked => exact judge_marked L now up (inSession_of_ahead ha ht) h1 hk hw
  case unmarked =>
    rw [judge_unmarked L now up (inSession_of_ahead ha ht) h1 hk hw]
    exact ⟨rfl, fun k => markEntry_getLsbD e behind k h1, rfl⟩
  case tooOld => exact judge_tooOld L now up (inSession_of_ahead ha ht) h32 hk

/-! ## Repeats -/

/-- The frame's sequence is the entry's highest, or has its mark in the window. -/
def Marked (f : Frame) (e : OriginEntry) : Prop :=
  (e.highest - f.sequence).toNat = 0 ∨
    (1 ≤ (e.highest - f.sequence).toNat ∧ (e.highest - f.sequence).toNat ≤ 31 ∧
      e.window.getLsbD ((e.highest - f.sequence).toNat - 1) = true)

theorem marked_of_highest {f : Frame} {e : OriginEntry} (h : e.highest = f.sequence) : Marked f e := .inl (by simp [h])

/-- A frame whose session and sequence the entry has is a duplicate. -/
theorem Marked.judge_duplicate {f : Frame} {e : OriginEntry} (h : Marked f e) (hs : InSession f e) (L : Lane) (now : Word32)
    (up : PerLane Bool) : (judge L f now up e).1 = .duplicate := by
  rcases h with h0 | ⟨h1, hk, hw⟩
  · rw [judge_highest L now up hs (by bv_omega)]
  · rw [judge_marked L now up hs h1 hk hw]

/-- The filter reads the tag and the sequence of the frame alone. -/
theorem judge_congr {f g : Frame} (ht : g.startTag = f.startTag) (hq : g.sequence = f.sequence) (L : Lane) (now : Word32)
    (up : PerLane Bool) (e : OriginEntry) : judge L g now up e = judge L f now up e := by
  simp only [judge, openEntry, advanceEntry, ht, hq]

/-- What the verdicts of one session can do to the entry: they mark the frame, or leave the entry as it is. -/
theorem judge_session_cases (L : Lane) {f : Frame} (now : Word32) (up : PerLane Bool) {e : OriginEntry} (h : InSession f e) :
    judge L f now up e = (.duplicate, measureSkew L now e) ∨
    (1 ≤ (f.sequence - e.highest).toNat ∧ (f.sequence - e.highest).toNat ≤ 32767 ∧
      judge L f now up e = (.accepted, advanceEntry L f now up (f.sequence - e.highest).toNat e)) ∨
    (1 ≤ (e.highest - f.sequence).toNat ∧ (e.highest - f.sequence).toNat ≤ 31 ∧
      judge L f now up e = (.accepted, markEntry (e.highest - f.sequence).toNat e)) ∨
    judge L f now up e = (.duplicate, e) ∨ judge L f now up e = (.stale, e) := by
  rw [judge_session L now up h]
  split
  · exact .inl rfl
  · split
    · exact .inr (.inl ⟨by omega, by omega, rfl⟩)
    · split
      · split
        · exact .inr (.inr (.inr (.inl rfl)))
        · exact .inr (.inr (.inl ⟨by bv_omega, by omega, rfl⟩))
      · exact .inr (.inr (.inr (.inr rfl)))

/-- An accepted frame is of the entry's session from then on, and marked. -/
theorem judge_accepts_marks {L : Lane} {f : Frame} {now : Word32} {up : PerLane Bool} {e : OriginEntry}
    (h : (judge L f now up e).1.accepts = true) :
    InSession f (judge L f now up e).2 ∧ Marked f (judge L f now up e).2 := by
  by_cases hs : InSession f e
  · rcases judge_session_cases L now up hs with hj | ⟨-, -, hj⟩ | ⟨h1, h31, hj⟩ | hj | hj <;> rw [hj] at h ⊢
    · exact absurd h Bool.false_ne_true
    · exact ⟨⟨hs.active, hs.tag⟩, marked_of_highest rfl⟩
    · exact ⟨⟨hs.active, hs.tag⟩, .inr ⟨h1, h31, (markEntry_getLsbD e _ _ h1 h1 h31).trans (by rw [decide_eq_true rfl, Bool.true_or])⟩⟩
    · exact absurd h Bool.false_ne_true
    · exact absurd h Bool.false_ne_true
  · rcases judge_otherSession L now up hs with hj | hj
    · rw [hj]
      exact ⟨⟨rfl, rfl⟩, marked_of_highest rfl⟩
    · rw [hj] at h
      exact absurd h Bool.false_ne_true

/-- The entry of the frame's session has come as far as the frame in the stretch from `base`, and has it marked unless it is too old for the window. -/
structure Remembers (base : Word16) (f : Frame) (e : OriginEntry) : Prop where
  session : InSession f e
  inStretch : (e.highest - base).toNat ≤ 32767
  reached : (f.sequence - base).toNat ≤ (e.highest - base).toNat
  marked : (e.highest - f.sequence).toNat ≤ 31 → Marked f e

/-- An accepted frame is remembered. -/
theorem judge_remembers {L : Lane} {f : Frame} {now : Word32} {up : PerLane Bool} {e : OriginEntry} {base : Word16}
    (h : (judge L f now up e).1.accepts = true) (hf : (f.sequence - base).toNat ≤ 32767)
    (hh : ((judge L f now up e).2.highest - base).toNat ≤ 32767) : Remembers base f (judge L f now up e).2 := by
  obtain ⟨hs, hm⟩ := judge_accepts_marks h
  refine ⟨hs, hh, ?_, fun _ => hm⟩
  have hbehind : ((judge L f now up e).2.highest - f.sequence).toNat ≤ 31 := by
    rcases hm with h0 | ⟨-, h31, -⟩
    · omega
    · exact h31
  have hfurther := further_of_forward hf (hbehind.trans (by decide))
  omega

namespace Remembers
variable {base : Word16} {f : Frame} {e : OriginEntry}

/-- A further copy of a remembered frame is not accepted: a duplicate where it is marked, and too old elsewhere. -/
theorem judge_drops (h : Remembers base f e) (L : Lane) (now : Word32) (up : PerLane Bool) :
    (judge L f now up e).1.accepts = false := by
  have hbehind := behind_of_le h.reached
  have hstretch := h.inStretch
  by_cases hk : (e.highest - f.sequence).toNat ≤ 31
  · rw [(h.marked hk).judge_duplicate h.session L now up]
    rfl
  · rw [judge_tooOld L now up h.session (by omega) (by omega)]
    rfl

/-- A later frame that moves the highest on moves the mark with it. -/
theorem advance (h : Remembers base f e) {x : Frame} (L : Lane) (now : Word32) (up : PerLane Bool)
    (h1 : 1 ≤ (x.sequence - e.highest).toNat) (hd : (x.sequence - e.highest).toNat ≤ 32767) (hx : (x.sequence - base).toNat ≤ 32767) :
    Remembers base f (advanceEntry L x now up (x.sequence - e.highest).toNat e) := by
  have hfurther := further_of_forward h.inStretch hd
  have hbehind := behind_of_le h.reached
  have hreached : (f.sequence - base).toNat ≤ (x.sequence - base).toNat := by have := h.reached; omega
  have hnew : (x.sequence - f.sequence).toNat = (e.highest - f.sequence).toNat + (x.sequence - e.highest).toNat := by
    rw [behind_of_le hreached]
    have := h.reached
    omega
  refine ⟨⟨h.session.active, h.session.tag⟩, hx, hreached, fun h31 => .inr ⟨?_, h31, ?_⟩⟩
  · show 1 ≤ (x.sequence - f.sequence).toNat
    omega
  · replace h31 : (x.sequence - f.sequence).toNat ≤ 31 := h31
    show (moveWindow e.window _).getLsbD ((x.sequence - f.sequence).toNat - 1) = true
    rw [moveWindow_getLsbD _ _ _ h1 (by omega) h31, hnew, Nat.add_sub_cancel, Bool.or_eq_true]
    rcases h.marked (by omega) with h0 | ⟨hpos, -, hw⟩
    · exact .inl (decide_eq_true (by omega))
    · exact .inr (by rw [hw, decide_eq_true (by omega), Bool.and_true])

/-- A late frame's mark leaves the others. -/
theorem mark (h : Remembers base f e) {k : Nat} (hk : 1 ≤ k) : Remembers base f (markEntry k e) := by
  refine ⟨⟨h.session.active, h.session.tag⟩, h.inStretch, h.reached, fun h31 => ?_⟩
  rcases h.marked h31 with h0 | ⟨h1, hle, hw⟩
  · exact .inl h0
  · exact .inr ⟨h1, hle, by rw [show (markEntry k e).highest = e.highest from rfl, markEntry_getLsbD e k _ hk h1 hle, hw, Bool.or_true]⟩

theorem skew (h : Remembers base f e) (L : Lane) (now : Word32) : Remembers base f (measureSkew L now e) := by
  obtain ⟨hactive, htag, hhighest, hwindow⟩ := measureSkew_frame L now e
  refine ⟨⟨hactive.trans h.session.active, h.session.tag.trans htag.symm⟩, ?_, ?_, ?_⟩
  · exact hhighest ▸ h.inStretch
  · exact hhighest ▸ h.reached
  · unfold Marked
    rw [hhighest, hwindow]
    exact h.marked

/-- A frame of the session within the stretch leaves a remembered frame remembered. -/
theorem judge_keeps (h : Remembers base f e) {x : Frame} (ht : x.startTag = f.startTag) (hx : (x.sequence - base).toNat ≤ 32767)
    (L : Lane) (now : Word32) (up : PerLane Bool) : Remembers base f (judge L x now up e).2 := by
  rcases judge_session_cases L now up (show InSession x e from ⟨h.session.active, ht.trans h.session.tag⟩) with
    hj | ⟨h1, hd, hj⟩ | ⟨h1, -, hj⟩ | hj | hj <;> rw [hj]
  · exact h.skew L now
  · exact h.advance L now up h1 hd hx
  · exact h.mark h1
  · exact h
  · exact h

end Remembers

/-- Settles O26: an accepted frame is marked, and frames of its session within the stretch leave it remembered. -/
theorem repeatsAreNotAccepted : Obligations.RepeatsAreNotAccepted := by
  unfold Obligations.RepeatsAreNotAccepted
  refine ⟨fun L M f g now later up up' e ha ht hq => ?_, ?_⟩
  · obtain ⟨hs, hm⟩ := judge_accepts_marks ha
    rw [judge_congr ht hq]
    exact hm.judge_duplicate hs M later up'
  · intro L M f g now later up up' e base between first last ha hf hh hb ht hq
    have hlast : Remembers base f last :=
      List.foldlRecOn between _ (judge_remembers ha hf hh) fun e he x hx =>
        he.judge_keeps (hb x hx).1 (hb x hx).2 x.1 x.2.2.1 x.2.2.2
    rw [judge_congr ht hq]
    exact hlast.judge_drops M later up'

end Sys2Proof.Machine
end

section
/-! Accepted PRESENCE: what it writes, and what FRAME_RECEIVED makes of the Peer Table before it: O33. -/

namespace Sys2Proof.Machine

open Sys2Proof

/-! ## The handler of PRESENCE -/

theorem acceptFrame_presence (f : Frame) (c : Word16) (p : AnnouncedPhase) (i l : Bool) (s : State) (h : f.payload = .presence c p i l) :
    acceptFrame f s = acceptPresence f.origin f.stamp c p i l (raiseClock f.stamp s) := by
  rw [acceptFrame, handleFrame, h]

/-- A node's checksum disagrees with every other one, and with all where it has none (R77). -/
theorem mismatches_eq (own : Option Word16) (announced : Word16) : mismatches own announced = decide (own ≠ some announced) := by
  cases own <;> simp [mismatches, bne, beq_eq_decide]

/-- The record that an accepted PRESENCE leaves of its origin (R76). -/
def announcedRecord (r : PeerRecord) (stamp : Word32) (c : Word16) (p : AnnouncedPhase) (i l : Bool) (own : Option Word16) : PeerRecord :=
  { r with checksum := c, phase := some p, incomplete := i, singleLane := l, clock := stamp, mismatch := decide (own ≠ some c) }

section
variable (n m : Station) (stamp : Word32) (c : Word16) (p : AnnouncedPhase) (i l : Bool) (s : State)

@[simp] theorem putPeer_peers (r : PeerRecord) : (putPeer n r s).presence.peers = update s.presence.peers n r := rfl

theorem acceptPresence_peer :
    (acceptPresence n stamp c p i l s).presence.peers[m] =
      if m = n then announcedRecord s.presence.peers[n] stamp c p i l s.zoneStore.checksum else s.presence.peers[m] := by
  have hpeers : (acceptPresence n stamp c p i l s).presence.peers =
      update s.presence.peers n (announcedRecord s.presence.peers[n] stamp c p i l s.zoneStore.checksum) := by
    unfold acceptPresence
    dsimp only
    rw [mismatches_eq]
    split <;> rfl
  rw [hpeers, update_get]

/-- LIBRARY_MISMATCH is raised where the flag goes from clear to set (R77). -/
theorem acceptPresence_libraryMismatch :
    (acceptPresence n stamp c p i l s).events.records.libraryMismatch =
      if decide (s.zoneStore.checksum ≠ some c) = true ∧ s.presence.peers[n].mismatch = false then
        andOne s.events.records.libraryMismatch n
      else s.events.records.libraryMismatch := by
  unfold acceptPresence
  dsimp only
  rw [mismatches_eq, apply_ite State.events, apply_ite EventUnit.records, apply_ite EventRecords.libraryMismatch]
  simp only [Bool.and_eq_true, Bool.not_eq_true']
  rfl

end

/-! ## Before the handler -/

/-- Of what PRESENCE reads and writes, `t` differs from `s` at most in how station `n` was heard. -/
structure OnlyHeard (n : Station) (s t : State) : Prop where
  zoneStore : t.zoneStore = s.zoneStore
  others : ∀ m : Station, m ≠ n → t.presence.peers[m] = s.presence.peers[m]
  announcement : t.presence.peers[n].announcement = s.presence.peers[n].announcement
  libraryMismatch : t.events.records.libraryMismatch = s.events.records.libraryMismatch

namespace OnlyHeard
variable {n : Station} {s t u : State}

theorem trans (h : OnlyHeard n s t) (h' : OnlyHeard n t u) : OnlyHeard n s u where
  zoneStore := h'.zoneStore.trans h.zoneStore
  others := fun m hm => (h'.others m hm).trans (h.others m hm)
  announcement := h'.announcement.trans h.announcement
  libraryMismatch := h'.libraryMismatch.trans h.libraryMismatch

/-- With the Peer Table as it was, the event is all there is to see. -/
theorem of_presence (hz : t.zoneStore = s.zoneStore) (hp : t.presence = s.presence)
    (he : t.events.records.libraryMismatch = s.events.records.libraryMismatch) : OnlyHeard n s t :=
  ⟨hz, fun m _ => by rw [hp], by rw [hp], he⟩

end OnlyHeard

theorem bringLaneUp_onlyHeard (L : Lane) (n : Station) (s : State) : OnlyHeard n s (bringLaneUp L s) := by
  unfold bringLaneUp
  dsimp only
  split
  · exact .of_presence rfl rfl rfl
  · exact .of_presence rfl rfl rfl

theorem countAt_onlyHeard (i : Fin 28) (n : Station) (s : State) : OnlyHeard n s (countAt i s) :=
  .of_presence (by simp) (by simp) (by rw [countAt_events])

/-- A record is heard by all its fields but the announced ones. -/
theorem hearPeer_onlyHeard (L : Lane) (n : Station) (crossed : Bool) (s : State) : OnlyHeard n s (hearPeer L n crossed s) := by
  have hput (r : PeerRecord) (hr : r.announcement = s.presence.peers[n].announcement) : OnlyHeard n s (putPeer n r s) := by
    refine ⟨rfl, fun m hm => ?_, ?_, rfl⟩
    · rw [putPeer_peers, update_get_other _ _ _ _ hm]
    · rw [putPeer_peers, update_get, if_pos rfl, hr]
  have hjoined (t : State) (h : OnlyHeard n s t) : OnlyHeard n s (raise (.peerJoined (oneOf n)) t) := h.trans (.of_presence rfl rfl rfl)
  unfold hearPeer
  dsimp only
  split
  · exact hput _ rfl
  · exact hput _ rfl
  · exact hput _ rfl
  · exact hjoined _ (hput _ rfl)
  · exact hjoined _ (hput _ rfl)

/-- A peer's frame as the Duplicate Filter gets it: its lane UP, the frame counted and its origin heard (R37, R40, R47, R72). -/
def heardFrame (L : Lane) (f : Frame) (s : State) : State :=
  let counted := countLane L .rxGood (bringLaneUp L s)
  hearPeer L f.origin (isCrossed L f) (if isCrossed L f then countLane L .rxCrossed counted else counted)

theorem takeGood_eq_heardFrame (L : Lane) (f : Frame) (s : State) (h : s.node.station ≠ some f.origin) :
    takeGood L f s = filterFrame L f (heardFrame L f s) := by
  have hn : (bringLaneUp L s).node.station ≠ some f.origin := by
    rw [(bringLaneUp_alike L s).node]
    exact h
  unfold takeGood
  dsimp only
  rw [if_neg hn]
  rfl

@[simp] theorem heardFrame_lanes (L : Lane) (f : Frame) (s : State) : (heardFrame L f s).lanes = (bringLaneUp L s).lanes := by
  unfold heardFrame
  dsimp only
  split <;> simp

@[simp] theorem heardFrame_filter (L : Lane) (f : Frame) (s : State) : (heardFrame L f s).filter = s.filter := by
  unfold heardFrame
  dsimp only
  split <;> simp

theorem heardFrame_onlyHeard (L : Lane) (f : Frame) (s : State) : OnlyHeard f.origin s (heardFrame L f s) := by
  have hcounted := (bringLaneUp_onlyHeard L f.origin s).trans (countAt_onlyHeard (laneIndex L .rxGood) f.origin _)
  unfold heardFrame
  dsimp only
  split
  · exact (hcounted.trans (countAt_onlyHeard _ _ _)).trans (hearPeer_onlyHeard _ _ _ _)
  · exact hcounted.trans (hearPeer_onlyHeard _ _ _ _)

/-- The Duplicate Filter hands on a frame it accepts with the Peer Table as it was. -/
theorem filterFrame_onlyHeard (L : Lane) (f : Frame) (s : State)
    (h : (judge L f s.filter.timeBase (lanesUp s) s.filter.entries[f.origin]).1.accepts = true) :
    ∃ b : State, filterFrame L f s = acceptFrame f b ∧ OnlyHeard f.origin s b := by
  have hnoted (x : DuplicateFilter) : OnlyHeard f.origin s (s.setFilter x) := .of_presence rfl rfl rfl
  have hrestart (u : State) : OnlyHeard f.origin u (raise (.peerRestart (oneOf f.origin)) (countNode .peerRestart u)) :=
    (countAt_onlyHeard (nodeIndex .peerRestart) f.origin u).trans (.of_presence rfl rfl rfl)
  unfold filterFrame
  dsimp only
  split
  · exact ⟨_, rfl, hnoted _⟩
  · exact ⟨_, rfl, (hnoted _).trans (hrestart _)⟩
  · next hv => rw [hv] at h; exact absurd h (by decide)
  · next hv => rw [hv] at h; exact absurd h (by decide)

/-- FRAME_RECEIVED of an accepted frame of a peer is its acceptance by a node that has only heard the peer. -/
theorem exec_accepted_onlyHeard (L : Lane) (bytes : List Byte) (f : Frame) (s : State) (h : AcceptedFrom L bytes f s) :
    ∃ b : State, exec (.frameReceived L bytes) s = .next (acceptFrame f b) ∧ OnlyHeard f.origin s b := by
  obtain ⟨hforeign, hpeer, haccepts⟩ := h
  obtain ⟨b, hb, hheard⟩ := filterFrame_onlyHeard L f (heardFrame L f s)
    (by rw [judge_reached L f s _ (heardFrame_lanes L f s) (heardFrame_filter L f s)]; exact haccepts)
  refine ⟨b, ?_, (heardFrame_onlyHeard L f s).trans hheard⟩
  rw [exec_foreign L bytes f s hforeign, takeGood_eq_heardFrame L f s hpeer, hb]

/-! ## FRAME_RECEIVED of PRESENCE -/

/-- Nodes that have only heard the peer differently take its announcement alike. -/
theorem OnlyHeard.acceptPresence {f : Frame} {s b : State} (h : OnlyHeard f.origin s b) {c : Word16} {p : AnnouncedPhase} {i l : Bool}
    (hp : f.payload = .presence c p i l) : OnlyHeard f.origin (acceptFrame f s) (acceptFrame f b) := by
  have hflag : b.presence.peers[f.origin].mismatch = s.presence.peers[f.origin].mismatch :=
    congrArg (fun a => a.2.2.2.2.2) h.announcement
  rw [acceptFrame_presence f c p i l s hp, acceptFrame_presence f c p i l b hp]
  refine ⟨?_, fun m hm => ?_, ?_, ?_⟩
  · simpa using raiseClock_congr f.stamp s b h.zoneStore
  · rw [acceptPresence_peer, acceptPresence_peer, if_neg hm, if_neg hm]
    simpa using h.others m hm
  · rw [acceptPresence_peer, acceptPresence_peer, if_pos rfl, if_pos rfl, raiseClock_checksum, raiseClock_checksum, h.zoneStore]
    rfl
  · rw [acceptPresence_libraryMismatch, acceptPresence_libraryMismatch]
    simp only [raiseClock_checksum, raiseClock_frame, h.zoneStore, h.libraryMismatch, hflag]

/-- Settles O33: the handler of PRESENCE, `exec_accepted` for the blocks it leaves, and `exec_accepted_onlyHeard` for the Peer Table. -/
theorem acceptedPresenceIsStored : Obligations.AcceptedPresenceIsStored := by
  unfold Obligations.AcceptedPresenceIsStored
  intro f checksum phase incomplete singleLane s hp t r differs
  have ht : t = acceptPresence f.origin f.stamp checksum phase incomplete singleLane (raiseClock f.stamp s) :=
    acceptFrame_presence f checksum phase incomplete singleLane s hp
  have hstore : t.zoneStore = (raiseClock f.stamp s).zoneStore := by rw [ht]; simp
  have hpeer (n : Station) : t.presence.peers[n] =
      if n = f.origin then announcedRecord r f.stamp checksum phase incomplete singleLane s.zoneStore.checksum
      else s.presence.peers[n] := by
    rw [ht, acceptPresence_peer, raiseClock_checksum]
    simp [r]
  have hchanges : t = { s with presence := t.presence, zoneStore := t.zoneStore, events := t.events } := by
    rw [ht]
    apply State.eq_of_fields <;> simp
  obtain ⟨hclock, hmax⟩ := raiseClock_zoneStore f.stamp s
  refine ⟨hpeer, ?_, by rw [hstore]; exact hclock, by rw [hstore]; exact hmax, hchanges, fun L bytes hfrom => ?_⟩
  · rw [ht, acceptPresence_libraryMismatch]
    simp [differs, r]
  · obtain ⟨b, hexec, hb⟩ := exec_accepted_onlyHeard L bytes f s hfrom
    obtain ⟨v, hv, h⟩ := exec_accepted L bytes f s hfrom
    obtain rfl : acceptFrame f b = v := Host.Outcome.next.inj (hexec.symm.trans hv)
    have hheard := hb.acceptPresence hp
    refine ⟨acceptFrame f b, hexec, hheard.announcement, fun n hn => ?_, hheard.libraryMismatch, h.zoneStore, ?_, ?_, ?_, ?_, ?_⟩
    · rw [hheard.others n hn]
      exact (hpeer n).trans (if_neg hn)
    · exact h.heads.trans (show t.heads = s.heads by rw [hchanges])
    · exact h.occupancy.trans (show t.occupancy = s.occupancy by rw [hchanges])
    · exact h.catchUp.trans (show t.catchUp = s.catchUp by rw [hchanges])
    · exact h.tx.trans (show t.tx = s.tx by rw [hchanges])
    · exact h.node.trans (show t.node = s.node by rw [hchanges])

end Sys2Proof.Machine
end

section
/-! The passing of time on an empty queue: O2. -/

namespace Sys2Proof.Machine

open Sys2Proof

theorem step_empty (s : State) (h : s.pending = []) : step s = .next (passTime s) := by
  unfold step
  rw [h]

theorem passBy_overtaken (n : Nat) (hn : n ≠ 0) (s : State) (z : Zone) :
    (passBy n s).occupancy.records[z] =
      { s.occupancy.records[z] with timer := s.occupancy.records[z].timer.after n, overtaken := false } := by
  rw [passBy_occupancyRecords, mapTable_get]
  simp [hn]

/-- Settles O2: `step_empty`, and what `passBy 1` makes of each block. -/
theorem emptyQueuePassesTime : Obligations.EmptyQueuePassesTime := by
  unfold Obligations.EmptyQueuePassesTime
  refine ⟨fun n => rfl, rfl, fun s hq hp => ?unpowered, fun s hq hp => ?powered⟩
  case unpowered => rw [step_empty s hq, passTime_unpowered s hp]
  case powered =>
    refine ⟨passBy 1 s, by rw [step_empty s hq, passTime_powered s hp], passBy_filter 1 s, passBy_presence 1 s, passBy_catchUp 1 s,
      rfl, passBy_overtaken 1 one_ne_zero s, rfl, fun i => ?inputs, passBy_heads 1 s, fun hw => ?idle, fun a v n hw => ?writing,
      passBy_frame 1 s⟩
    case inputs => rw [passBy_inputRecords, mapTable_get]; rfl
    case idle =>
      rw [passBy_store, hw, WriteState.after_idle, ← hw]
    case writing => rw [passBy_store, hw, WriteState.after_writing]

end Sys2Proof.Machine
end

section
/-! The expiry of the presence interval: O32. -/

namespace Sys2Proof.Machine

open Sys2Proof

/-! ## Ageing -/

theorem agePeer_still (r : PeerRecord) (h : r.state.ages = false) : agePeer r = r := by
  unfold agePeer
  rw [h]
  rfl

theorem agePeer_ages (r : PeerRecord) (h : r.state.ages = true) :
    agePeer r = { r with state := agedState r.state (min 8 (r.sinceHeard + 1)), sinceHeard := min 8 (r.sinceHeard + 1),
                         sinceLane := ⟨min 3 (r.sinceLane.a + 1), min 3 (r.sinceLane.b + 1)⟩ } := by
  unfold agePeer
  rw [h]
  rfl

/-- The state of every record, aged or not, goes by its count alone. -/
theorem agePeer_state (r : PeerRecord) : (agePeer r).state = agedState r.state (min 8 (r.sinceHeard + 1)) := by
  cases h : r.state with
  | absent => rw [agePeer_still r (by rw [h]; rfl), h]; rfl
  | self => rw [agePeer_still r (by rw [h]; rfl), h]; rfl
  | present => rw [agePeer_ages r (by rw [h]; rfl), h]
  | silent => rw [agePeer_ages r (by rw [h]; rfl), h]
  | lost => rw [agePeer_ages r (by rw [h]; rfl), h]

theorem agedState_present (n : Nat) : agedState .present n = if 3 ≤ n then .silent else .present := rfl

theorem agedState_silent (n : Nat) : agedState .silent n = if 8 ≤ n then .lost else .silent := rfl

@[simp] theorem agePeers_presence (s : State) :
    (agePeers s).presence = { s.presence with peers := mapTable agePeer s.presence.peers } := by
  unfold agePeers
  dsimp only
  split <;> rfl

/-- PEER_LOST gains the stations whose records ageing takes from SILENT to LOST; a raise of the empty set would add none. -/
theorem agePeers_peerLost (s : State) (n : Station) :
    inSet ((agePeers s).events.records.peerLost.getD 0) n =
      (inSet (s.events.records.peerLost.getD 0) n ||
        (s.presence.peers[n].state == .silent && (agePeer s.presence.peers[n]).state == .lost)) := by
  have hlost : inSet (setOf fun m => s.presence.peers[m].state == .silent && (mapTable agePeer s.presence.peers)[m].state == .lost) n =
      (s.presence.peers[n].state == .silent && (agePeer s.presence.peers[n]).state == .lost) := by
    rw [setOf_inSet, mapTable_get]
  unfold agePeers
  dsimp only
  split
  · next hnone => rw [← hlost, hnone]; simp [inSet]
  · rw [← hlost]; simp [EventRecords.add, pendSet, inSet_or]

/-! ## The interval over -/

/-- The node once the interval has run out, the next one started and the records aged; PRESENCE and the count are still to come. -/
def intervalOver (s : State) : State := agePeers (startPresenceTimer (expiryOf s.presence.timer s))

theorem exec_presenceExpiry (s : State) (h : s.presence.timer ≠ .stopped) :
    exec .presenceExpiry s = .next (countListenExpiry (createPresence (intervalOver s))) := by
  show execPresenceExpiry s = _
  unfold execPresenceExpiry
  rw [if_pos (Timer.isRunning_of_ne h)]
  rfl

/-- What the end of the interval leaves as it was, or as the passing of time left it. -/
@[simp] theorem intervalOver_frame (s : State) :
    (intervalOver s).pins = s.pins ∧ (intervalOver s).lanes = s.lanes ∧ (intervalOver s).zoneStore = s.zoneStore ∧
    (intervalOver s).tx = s.tx ∧ (intervalOver s).node = s.node ∧ (intervalOver s).port = s.port ∧
    (intervalOver s).filter = (expiryOf s.presence.timer s).filter ∧ (intervalOver s).catchUp = (expiryOf s.presence.timer s).catchUp ∧
    (intervalOver s).inputs = (expiryOf s.presence.timer s).inputs ∧ (intervalOver s).store = (expiryOf s.presence.timer s).store := by
  simp [intervalOver]

@[simp] theorem intervalOver_presence (s : State) :
    (intervalOver s).presence =
      { peers := mapTable agePeer s.presence.peers, timer := .running s.presence.interval, interval := s.presence.interval } := by
  simp [intervalOver, startPresenceTimer]

theorem intervalOver_peerLost (s : State) (n : Station) :
    inSet ((intervalOver s).events.records.peerLost.getD 0) n =
      (inSet (s.events.records.peerLost.getD 0) n ||
        (s.presence.peers[n].state == .silent && (agePeer s.presence.peers[n]).state == .lost)) := by
  unfold intervalOver
  rw [agePeers_peerLost]
  simp [startPresenceTimer]

/-! ## The node's PRESENCE -/

theorem createPresence_unannounced (s : State) (h : s.node.phase.announced = none) : createPresence s = s := by
  unfold createPresence
  rw [h]

theorem createPresence_tx (s : State) (phase : AnnouncedPhase) (h : s.node.phase.announced = some phase) :
    (createPresence s).tx =
      if s.tx.records.any (fun r => r.payload.isPresence && r.live) then s.tx
      else (offerRecord (.presence (s.zoneStore.checksum.getD 0) phase s.catchUp.incomplete (fewLanes s)) s.zoneStore.clock s).state.tx := by
  unfold createPresence
  rw [h]
  exact apply_ite State.tx _ _ _

/-- What the end of the interval moves, PRESENCE does not read: it is offered as if nothing had aged. -/
theorem createPresence_intervalOver_tx (s : State) (phase : AnnouncedPhase) (h : s.node.phase.announced = some phase) :
    (createPresence (intervalOver s)).tx =
      if s.tx.records.any (fun r => r.payload.isPresence && r.live) then s.tx
      else (offerRecord (.presence (s.zoneStore.checksum.getD 0) phase s.catchUp.incomplete (fewLanes s)) s.zoneStore.clock s).state.tx := by
  have hoffer (p : Payload) : (offerRecord p s.zoneStore.clock (intervalOver s)).state.tx = (offerRecord p s.zoneStore.clock s).state.tx :=
    (offerRecord_congr p _ s (intervalOver s) (by simp) (by simp) (by simp) (by simp)).2.2
  have hfew : fewLanes (intervalOver s) = fewLanes s := by simp [fewLanes]
  rw [createPresence_tx _ phase (by simpa using h), hfew]
  simp [hoffer]

/-! ## The ask -/

/-- Whether a SYNC_ASK offered now is entered: a lane is UP and the queue has room. -/
def askGoesOut (s : State) : Prop := (s.lanes.a.state = .up ∨ s.lanes.b.state = .up) ∧ s.tx.records.length < 16

theorem copyStateFor_eq_pending (lane : LaneState) (fault : Bool) : copyStateFor false lane fault = .pending ↔ lane = .up := by
  cases lane <;> simp [copyStateFor]

theorem anyPending_ask (zones : ZoneSet) (s : State) :
    anyPending (.syncAsk zones) s ↔ s.lanes.a.state = .up ∨ s.lanes.b.state = .up :=
  or_congr (copyStateFor_eq_pending _ _) (copyStateFor_eq_pending _ _)

theorem offerAsk_entered (s : State) (h : askGoesOut s) :
    offerAsk s =
      { state := s.setTx { records := s.tx.records ++ [newRecord (.syncAsk allZones) s.zoneStore.clock s],
                           nextSequence := s.tx.nextSequence + 1 },
        outcome := .entered, lostAsk := false } :=
  offerRecord_room _ _ s ((anyPending_ask _ s).mpr h.1) h.2

/-- An ask in vain leaves the queue as it was: it is not sent, or dropped. -/
theorem offerAsk_vain (s : State) (h : ¬ askGoesOut s) : (offerAsk s).outcome ≠ .entered ∧ (offerAsk s).state.tx = s.tx := by
  unfold offerAsk
  by_cases hlane : anyPending (.syncAsk allZones) s
  · have hfull : 16 ≤ s.tx.records.length := by
      by_contra hroom
      exact h ⟨(anyPending_ask _ s).mp hlane, by omega⟩
    rw [offerRecord_drops _ _ s hlane hfull (.inl rfl)]
    simp
  · rw [offerRecord_notSent _ _ s hlane]
    simp [Payload.urgent, Payload.kind, urgentKind]

/-- CATCH_UP as it is entered, its ask still to be made (R101). -/
def beginAsking (s : State) : State :=
  (s.setNode { s.node with phase := .catchUp }).setCatchUp { s.catchUp with asker := .asking, retry := false, window := .stopped }

theorem enterCatchUp_eq (s : State) :
    enterCatchUp s =
      if (offerAsk (beginAsking s)).outcome = .entered then (offerAsk (beginAsking s)).state
      else askFailed (offerAsk (beginAsking s)).state := rfl

theorem enterCatchUp_asks (s : State) (h : askGoesOut s) : enterCatchUp s = (offerAsk (beginAsking s)).state := by
  rw [enterCatchUp_eq, if_pos (by rw [offerAsk_entered (beginAsking s) h])]

/-- A first failed ask whose retry cannot go out either ends the catch-up incomplete, the retry made (R103). -/
theorem askFailed_vain (s : State) (hasking : s.catchUp.asker = .asking) (hfirst : s.catchUp.retry = false) (h : ¬ askGoesOut s) :
    askFailed s = enterRunning .incomplete (offerAsk (s.setCatchUp { s.catchUp with retry := true })).state := by
  unfold askFailed
  dsimp only
  rw [if_pos hasking, if_neg (by rw [hfirst]; decide), if_neg (offerAsk_vain (s.setCatchUp { s.catchUp with retry := true }) h).1]

theorem offerAsk_peerLost (s : State) : (offerAsk s).state.events.records.peerLost = s.events.records.peerLost := by
  rw [offerAsk, (offerRecord_kept _ _ s).2]

/-- With both asks in vain RUNNING is entered incomplete, from ASKING with the retry made. -/
theorem enterCatchUp_vain (s : State) (h : ¬ askGoesOut s) :
    ∃ v, enterCatchUp s = enterRunning .incomplete v ∧ v.node = { s.node with phase := .catchUp } ∧
      v.catchUp = { s.catchUp with asker := .asking, retry := true, window := .stopped } ∧
      v.events.records.peerLost = s.events.records.peerLost := by
  obtain ⟨hvain, htx⟩ := offerAsk_vain (beginAsking s) h
  have hagain : ¬ askGoesOut (offerAsk (beginAsking s)).state := by
    unfold askGoesOut
    rw [htx, (offerAsk_frame _).2.1]
    exact h
  have hentered := askFailed_vain _ (by simp [beginAsking]) (by simp [beginAsking]) hagain
  rw [enterCatchUp_eq, if_neg hvain]
  refine ⟨_, hentered, ?node, ?catchUp, ?peerLost⟩
  case node => simp [beginAsking]
  case catchUp => simp [beginAsking]
  case peerLost => rw [offerAsk_peerLost]; exact offerAsk_peerLost _

/-- With the ask going out CATCH_UP is entered with the ask at the newest end of the queue. -/
theorem enterCatchUp_asked (s : State) (h : askGoesOut s) :
    (enterCatchUp s).node = { s.node with phase := .catchUp } ∧
    (enterCatchUp s).catchUp = { s.catchUp with asker := .asking, retry := false, window := .stopped } ∧
    (enterCatchUp s).tx =
      { records := s.tx.records ++ [newRecord (.syncAsk allZones) s.zoneStore.clock s], nextSequence := s.tx.nextSequence + 1 } := by
  rw [enterCatchUp_asks s h, offerAsk_entered (beginAsking s) h]
  exact ⟨rfl, rfl, rfl⟩

theorem enterCatchUp_failed (s : State) (h : ¬ askGoesOut s) :
    (enterCatchUp s).node = { s.node with phase := .running } ∧
    (enterCatchUp s).catchUp =
      { s.catchUp with asker := .finished, retry := true, window := .stopped, held := [], incomplete := true } ∧
    (enterCatchUp s).events.records.catchUpDone = some .incomplete := by
  obtain ⟨v, hv, hnode, hcatchUp, -⟩ := enterCatchUp_vain s h
  rw [hv]
  refine ⟨?_, ?_, enterRunning_done _ v⟩
  · rw [enterRunning_node, hnode]
  · rw [enterRunning_catchUp, hcatchUp]

/-! ## PEER_LOST after the ageing -/

theorem createPresence_peerLost (s : State) : (createPresence s).events.records.peerLost = s.events.records.peerLost := by
  rw [(createPresence_kept s).2]

theorem enterRunning_peerLost (how : Completion) (s : State) :
    (enterRunning how s).events.records.peerLost = s.events.records.peerLost := by
  unfold enterRunning
  rw [(releaseHeld_kept _).2]
  exact createPresence_peerLost _

theorem enterCatchUp_peerLost (s : State) : (enterCatchUp s).events.records.peerLost = s.events.records.peerLost := by
  by_cases h : askGoesOut s
  · rw [enterCatchUp_asks s h]
    exact offerAsk_peerLost _
  · obtain ⟨v, hv, -, -, hlost⟩ := enterCatchUp_vain s h
    rw [hv, enterRunning_peerLost, hlost]

/-! ## The count of expiries in LISTEN -/

theorem countListenExpiry_other (s : State) (h : s.node.phase ≠ .listen) : countListenExpiry s = s := by
  unfold countListenExpiry
  rw [if_neg h]

theorem countListenExpiry_first (s : State) (h : s.node.phase = .listen) (hn : s.node.listenExpiries = 0) :
    countListenExpiry s = s.setNode { s.node with listenExpiries := 1 } := by
  unfold countListenExpiry
  dsimp only
  rw [if_pos h, if_neg (by simp [hn]), hn]

theorem countListenExpiry_second (s : State) (h : s.node.phase = .listen) (hn : s.node.listenExpiries = 1) :
    countListenExpiry s = enterCatchUp (s.setNode { s.node with listenExpiries := 2 }) := by
  unfold countListenExpiry
  dsimp only
  rw [if_pos h, if_pos (by simp [hn]), hn]

theorem countListenExpiry_peerLost (s : State) : (countListenExpiry s).events.records.peerLost = s.events.records.peerLost := by
  unfold countListenExpiry
  dsimp only
  split
  · split
    · exact enterCatchUp_peerLost _
    · rfl
  · rfl

/-- An expiry that does not end LISTEN is counted in LISTEN, and moves nothing else. -/
theorem countListenExpiry_stays (s : State) (h : s.node.phase ≠ .listen ∨ s.node.listenExpiries = 0) :
    countListenExpiry s =
      s.setNode { s.node with listenExpiries := if s.node.phase = .listen then 1 else s.node.listenExpiries } := by
  by_cases hl : s.node.phase = .listen
  · rw [countListenExpiry_first s hl (h.resolve_left (not_not_intro hl)), if_pos hl]
  · rw [countListenExpiry_other s hl, if_neg hl]
    rfl

/-! ## PRESENCE_EXPIRY -/

/-- Settles O32: the ageing by `intervalOver`, PRESENCE by `createPresence`, and the second expiry in LISTEN by the two ends of `enterCatchUp`. -/
theorem presenceExpiryAgesAndAnnounces : Obligations.PresenceExpiryAgesAndAnnounces := by
  unfold Obligations.PresenceExpiryAgesAndAnnounces
  refine ⟨?expiry, ?ageing⟩
  case expiry =>
    intro s hrun u
    refine ⟨_, exec_presenceExpiry s hrun, by simp, by simp, fun n => by simp, fun n => ?lost, fun hp => ?quiet,
      fun announced ha hstay => ?stays, ?ends, by simp, by simp, by simp [u], by simp [u], by simp [u],
      by simp⟩
    case lost => rw [countListenExpiry_peerLost, createPresence_peerLost, intervalOver_peerLost]
    case quiet =>
      obtain ⟨hnone, hother⟩ : (intervalOver s).node.phase.announced = none ∧ (intervalOver s).node.phase ≠ .listen := by
        rcases hp with hp | hp <;> simp [hp, Phase.announced]
      rw [createPresence_unannounced _ hnone, countListenExpiry_other _ hother]
      simp
    case stays =>
      rw [countListenExpiry_stays _ (by simpa using hstay)]
      exact ⟨createPresence_intervalOver_tx s announced ha, by simp, by simp [u]⟩
    case ends =>
      intro hl hn presented ask goesOut
      have htx : (createPresence (intervalOver s)).tx = presented :=
        createPresence_intervalOver_tx s .listen (by rw [hl]; rfl)
      rw [countListenExpiry_second _ (by simpa using hl) (by simpa using hn)]
      set counted := (createPresence (intervalOver s)).setNode
        { (createPresence (intervalOver s)).node with listenExpiries := 2 } with hcounted
      have hgoes : askGoesOut counted ↔ goesOut := by simp [askGoesOut, goesOut, hcounted, htx]
      refine ⟨fun h => ?asked, fun h => ?failed⟩
      case asked =>
        obtain ⟨hnode, hcatchUp, hqueue⟩ := enterCatchUp_asked counted (hgoes.mpr h)
        refine ⟨hnode.trans (by simp [hcounted]), hcatchUp.trans (by simp [hcounted, u]), hqueue.trans ?_⟩
        simp [hcounted, htx, ask, newRecord, newCopies, allZones, Payload.isPresence, Payload.kind]
      case failed =>
        obtain ⟨hnode, hcatchUp, hdone⟩ := enterCatchUp_failed counted (mt hgoes.mp h)
        exact ⟨hnode.trans (by simp [hcounted]), hcatchUp.trans (by simp [hcounted, u]), hdone⟩
  case ageing =>
    intro r
    refine ⟨fun h => agePeer_still r ?_, fun h => ?_, fun h hn => ?_, fun h hn => ?_, fun h hlo hhi => ?_, fun h hn => ?_, fun h => ?_⟩
    · rcases h with h | h <;> rw [h] <;> rfl
    · rw [agePeer_ages r (by rcases h with h | h | h <;> rw [h] <;> rfl)]
      exact ⟨rfl, rfl, rfl⟩
    · rw [agePeer_state, h, agedState_present, if_neg (by omega)]
    · rw [agePeer_state, h, agedState_present, if_pos (by omega)]
    · rw [agePeer_state, h, agedState_silent, if_neg (by omega)]
    · rw [agePeer_state, h, agedState_silent, if_pos (by omega)]
    · rw [agePeer_state, h]
      rfl

end Sys2Proof.Machine
end

section
/-! The state after reset is sound, block by block: O4. -/

namespace Sys2Proof.Machine

open Sys2Proof

theorem reset_phaseSound : PhaseSound State.reset := by
  constructor <;> decide

theorem reset_writeSound : WriteSound State.reset := by
  refine ⟨fun a v n h => ?_, fun found h => ?_, fun c h => ?_⟩
  · exact absurd h (by simp [State.reset, ConfigStore.reset])
  · exact absurd h (by simp [State.reset])
  · exact absurd h (by simp [State.reset])

/-- No zone is HELD, and CLOCK_EXHAUSTED is clear. -/
theorem reset_clockSound : ClockSound State.reset := by
  refine ⟨fun z x h => ?_, fun h => ?_⟩
  · have hempty : State.reset.zoneStore.table[z] = none := replicate_get _ z
    rw [hempty] at h
    cases h
  · cases h

/-- A queue without a record is sound. -/
theorem queueSound_empty (s : State) (h : s.tx.records = []) : QueueSound s := by
  constructor <;> simp [h, flyingOn]

/-- A Held List without a request is sound. -/
theorem heldSound_empty (s : State) (h : s.catchUp.held = []) : HeldSound s := by
  simp [HeldSound, h]

theorem reset_lanesSound : LanesSound State.reset := by
  intro L
  cases L <;> decide

/-- Every record is ABSENT, and no station is the node's own. -/
theorem reset_peersSound : PeersSound State.reset := by
  intro n
  have hreset : State.reset.presence.peers[n] = PeerRecord.reset := replicate_get _ n
  rw [hreset]
  exact ⟨by decide, by simp [PeerRecord.reset, State.reset, NodeController.reset]⟩

theorem reset_occupancySound : OccupancySound State.reset := by
  intro z
  have hconfig : State.reset.occupancy.config[z] = OccupancyConfig.zero := replicate_get _ z
  have hreset : State.reset.occupancy.records[z] = OccupancyRecord.reset := replicate_get _ z
  rw [hconfig, hreset]
  exact ⟨by decide, fun _ => rfl⟩

theorem reset_inputsSound : InputsSound State.reset := by
  intro i
  have hconfig : State.reset.inputs.config[i] = InputConfig.unused := replicate_get _ i
  have hreset : State.reset.inputs.records[i] = InputRecord.reset := replicate_get _ i
  rw [hconfig, hreset]
  exact ⟨by decide, fun _ => rfl⟩

theorem reset_headsSound : HeadsSound State.reset := by
  intro ch
  have hreset : State.reset.heads.channels[ch] = ChannelRecord.reset := replicate_get _ ch
  have houtput : State.reset.heads.outputs[ch] = 0 := replicate_get _ ch
  rw [hreset, houtput]
  exact ⟨by decide, by decide, fun _ _ => rfl⟩

/-- Settles O4: block by block. The queue and the Held List are empty, and LOADING has not ended, with every other block at its reset values. -/
theorem resetIsSound : Obligations.ResetIsSound where
  store := ⟨rfl, Nat.zero_le _⟩
  phase := reset_phaseSound
  loading := fun _ => ⟨rfl, rfl, rfl, rfl, rfl, rfl, rfl, rfl, rfl, rfl, rfl⟩
  write := reset_writeSound
  clock := reset_clockSound
  queue := queueSound_empty _ rfl
  held := heldSound_empty _ rfl
  lanes := reset_lanesSound
  peers := reset_peersSound
  occupancy := reset_occupancySound
  inputs := reset_inputsSound
  heads := reset_headsSound

end Sys2Proof.Machine
end

section
/-! What becomes of a record offered to the Transmit Queue: O27. -/

namespace Sys2Proof.Machine

open Sys2Proof

/-! ## Counting and dropping beside the queue -/

/-- A counter at its greatest value stands (R174). -/
theorem countAt_full (i : Fin 28) (s : State) (h : s.counters.live[i] = maxWord) : countAt i s = s := if_pos h

/-- The first counter to reach its greatest value sets the latch and raises COUNTER_SATURATED (R174). -/
theorem countAt_first (i : Fin 28) (s : State) (hroom : s.counters.live[i] ≠ maxWord)
    (hfirst : s.counters.live[i] + 1 = maxWord ∧ s.counters.latch = false) :
    countAt i s = raise (.counterSaturated i)
      (s.setCounters { s.counters with live := update s.counters.live i (s.counters.live[i] + 1), latch := true }) :=
  (if_neg hroom).trans (if_pos hfirst)

/-- Any other count raises nothing. -/
theorem countAt_plain (i : Fin 28) (s : State) (hroom : s.counters.live[i] ≠ maxWord)
    (hfirst : ¬ (s.counters.live[i] + 1 = maxWord ∧ s.counters.latch = false)) :
    countAt i s = s.setCounters { s.counters with live := update s.counters.live i (s.counters.live[i] + 1) } :=
  (if_neg hroom).trans (if_neg hfirst)

/-- A count does not read the Transmit Queue. -/
theorem countAt_setTx (i : Fin 28) (s : State) (q : TransmitQueue) : countAt i (s.setTx q) = (countAt i s).setTx q := by
  by_cases hroom : s.counters.live[i] = maxWord
  · rw [countAt_full i s hroom, countAt_full i (s.setTx q) hroom]
  · by_cases hfirst : s.counters.live[i] + 1 = maxWord ∧ s.counters.latch = false
    · rw [countAt_first i s hroom hfirst, countAt_first i (s.setTx q) hroom hfirst]
      rfl
    · rw [countAt_plain i s hroom hfirst, countAt_plain i (s.setTx q) hroom hfirst]
      rfl

/-- A drop does not read the Transmit Queue. -/
theorem dropRecord_setTx (s : State) (q : TransmitQueue) : dropRecord (s.setTx q) = (dropRecord s).setTx q := by
  unfold dropRecord countNode
  rw [countAt_setTx]
  rfl

@[simp] theorem dropRecord_counters (s : State) : (dropRecord s).counters = (countNode .txDrop s).counters := rfl

/-- TX_DROP's record rises by one, stopping at 255 (R86, R179). -/
theorem dropRecord_txDrop (s : State) :
    (dropRecord s).events.records.txDrop =
      some (BitVec.ofNat 8 (min 255 ((s.events.records.txDrop.getD 0).toNat + 1))) := by
  have hcount : (countNode .txDrop s).events.records.txDrop = s.events.records.txDrop := by
    rw [countNode, countAt_events]
  rw [dropRecord, raise_events, EventRecords.add, hcount]
  rfl

/-! ## The copies of a new record -/

theorem newCopies_get (presence : Bool) (s : State) (L : Lane) :
    (newCopies presence s).get L = copyStateFor presence (s.lanes.get L).state (s.pins.faultLines.get L) := by
  cases L <;> rfl

/-- A lane UP takes a copy, a lane DOWN takes a PRESENCE while its fault line is clear (R85). -/
theorem copyStateFor_eq (presence : Bool) (lane : LaneState) (fault : Bool) :
    copyStateFor presence lane fault =
      if lane = .up then .pending else if lane = .down ∧ presence = true ∧ fault = false then .pending else .notUsed := by
  cases lane <;> simp [copyStateFor]

/-! ## The newest ROUTINE record displaced -/

/-- A full queue without its newest ROUTINE record that has no copy in flight takes the URGENT record (R86). -/
theorem offerRecord_displaces_at (p : Payload) (stamp : Word32) (s : State) (h : anyPending p s) (hfull : 16 ≤ s.tx.records.length)
    (hu : p.urgent = true) (older younger : List TxRecord) (gone : TxRecord) (hq : s.tx.records = older ++ gone :: younger)
    (hroutine : gone.payload.urgent = false) (hrest : gone.flying = false)
    (hy : ∀ r ∈ younger, r.payload.urgent = true ∨ r.flying = true) :
    offerRecord p stamp s =
      { state := (dropRecord s).setTx
          { records := older ++ younger ++ [newRecord p stamp s], nextSequence := s.tx.nextSequence + 1 },
        outcome := .entered, lostAsk := gone.unsentAsk } := by
  have hd : displaceNewest s.tx.records = some (gone, older ++ younger) := by
    rw [hq]
    exact displaceNewest_at older younger gone hroutine hrest hy
  rw [offerRecord_displaces p stamp s h hfull hu gone _ hd, dropRecord_setTx]
  simp [enterRecord, newRecord]

/-- Settles O27: the copies by `copyStateFor_eq`, and each case of R85 and R86 by the lemma of what an offer does there. -/
theorem offeredRecordsEnterOrDrop : Obligations.OfferedRecordsEnterOrDrop := by
  unfold Obligations.OfferedRecordsEnterOrDrop
  intro p stamp s o
  refine ⟨fun L => ?copies, fun h => ?notSent, fun h hroom => ?room, fun h hfull hu older gone younger hq hroutine hrest hy => ?displaced,
    fun h hfull hnone => ?dropped, offerRecord_changes p stamp s⟩
  case copies => rw [newCopies_get, copyStateFor_eq]
  case notSent =>
    have ho : o = _ := offerRecord_notSent p stamp s h
    rw [ho]
    refine ⟨rfl, ?_, fun hu => if_pos hu, fun hu => if_neg (by simp [hu])⟩
    dsimp only
    split <;> simp
  case room =>
    have ho : o = _ := offerRecord_room p stamp s h hroom
    rw [ho]
    exact ⟨rfl, rfl⟩
  case displaced =>
    have ho : o = _ := offerRecord_displaces_at p stamp s h hfull hu older younger gone hq hroutine hrest hy
    rw [ho]
    exact ⟨rfl, rfl, rfl, rfl, dropRecord_txDrop s⟩
  case dropped =>
    have ho : o = _ := offerRecord_drops p stamp s h hfull (hnone.imp_right (displaceNewest_none _).mpr)
    rw [ho]
    exact ⟨rfl, (dropRecord_frame s).2.2.2.2.2.2.1, rfl, dropRecord_txDrop s⟩

end Sys2Proof.Machine
end

section
/-! The back-off's expiry: its records offered one after another, with room or without: O36. -/

namespace Sys2Proof.Machine

open Sys2Proof

/-! ## The groups and their entries -/

/-- Every group but the last holds four (R108). -/
theorem groupsOfFour_full {α : Type} (l : List α) (before : List (List α)) (last : List α)
    (h : groupsOfFour l = before ++ [last]) : ∀ g ∈ before, g.length = 4 := by
  induction l using groupsOfFour.induct generalizing before with
  | case1 a b c d rest ih =>
    rw [groupsOfFour] at h
    rcases List.cons_eq_append_iff.mp h with ⟨hnil, -⟩ | ⟨before', hbefore, hrest⟩
    · simp [hnil]
    · rw [hbefore]
      exact List.forall_mem_cons.mpr ⟨rfl, ih before' hrest⟩
  | case2 => simp [groupsOfFour] at h
  | case3 few hfour hnil =>
    have hone : groupsOfFour few = [few] := by rw [groupsOfFour] <;> simp_all
    have hbefore : before = [] := by
      have hlength := congrArg List.length (hone.symm.trans h)
      exact List.eq_nil_of_length_eq_zero (by simpa using hlength.symm)
    simp [hbefore]

theorem members_ascending (set : BitVec 32) : (members set).Pairwise (· < ·) :=
  (List.pairwise_lt_finRange 32).filter _

/-- The entries stand in ascending zone order (R108). -/
theorem answerEntries_ascending (store : ZoneStore) (answers : ZoneSet) :
    (answerEntries store answers).Pairwise (fun e e' => e.zone.val < e'.zone.val) := by
  refine List.Pairwise.filterMap _ (fun z z' hlt e he e' he' => ?_) (members_ascending answers)
  obtain ⟨x, -, rfl⟩ := Option.map_eq_some_iff.mp he
  obtain ⟨x', -, rfl⟩ := Option.map_eq_some_iff.mp he'
  exact hlt

theorem mem_answerEntries (store : ZoneStore) (answers : ZoneSet) (z : Zone) (x : Setting) :
    ({ zone := z, setting := x } : SyncEntry) ∈ answerEntries store answers ↔
      inSet answers z = true ∧ store.table[z] = some x := by
  simp only [answerEntries, List.mem_filterMap, mem_members, Option.map_eq_some_iff]
  constructor
  · rintro ⟨y, hy, w, hw, he⟩
    cases he
    exact ⟨hy, hw⟩
  · rintro ⟨hz, hx⟩
    exact ⟨z, hz, x, hx, rfl⟩

/-! ## Records offered one after another -/

/-- A lane is UP. -/
def someLaneUp (s : State) : Prop := s.lanes.a.state = .up ∨ s.lanes.b.state = .up

theorem someLaneUp_setTx {s : State} {x : TransmitQueue} : someLaneUp (s.setTx x) ↔ someLaneUp s := .rfl

theorem anyPending_syncEntry (entries : List SyncEntry) (s : State) : anyPending (.syncEntry entries) s ↔ someLaneUp s :=
  or_congr (copyStateFor_eq_pending _ _) (copyStateFor_eq_pending _ _)

/-- The answers of BACKOFF_EXPIRY offered, group by group. -/
def offerAnswers (groups : List (List SyncEntry)) (s : State) : State :=
  groups.foldl (fun s g => (offerRecord (.syncEntry g) s.zoneStore.clock s).state) s

theorem offerAnswers_cons (g : List SyncEntry) (groups : List (List SyncEntry)) (s : State) :
    offerAnswers (g :: groups) s = offerAnswers groups (offerRecord (.syncEntry g) s.zoneStore.clock s).state := rfl

theorem answerAll_eq (s : State) :
    answerAll s =
      (offerAnswers (groupsOfFour (answerEntries s.zoneStore s.catchUp.answers)) s).setCatchUp
        { (offerAnswers (groupsOfFour (answerEntries s.zoneStore s.catchUp.answers)) s).catchUp with answers := 0, backoff := .stopped } :=
  rfl

/-- The offers change the Transmit Queue, the Counter Bank and the Event Unit alone. -/
theorem offerAnswers_changes (groups : List (List SyncEntry)) (s : State) :
    offerAnswers groups s =
      { s with tx := (offerAnswers groups s).tx, counters := (offerAnswers groups s).counters, events := (offerAnswers groups s).events } := by
  unfold offerAnswers
  apply State.eq_of_fields
  case tx | counters | events => rfl
  all_goals exact foldl_keep _ _ (by intros; simp) _ _

theorem offerAnswers_catchUp (groups : List (List SyncEntry)) (s : State) : (offerAnswers groups s).catchUp = s.catchUp :=
  foldl_keep State.catchUp _ (by intros; simp) _ _

/-- With no lane UP nothing is entered, and nothing is counted (R85). -/
theorem offerAnswers_unsent (groups : List (List SyncEntry)) (s : State) (h : ¬ someLaneUp s) : offerAnswers groups s = s := by
  induction groups with
  | nil => rfl
  | cons g groups ih =>
    rw [offerAnswers_cons, offerRecord_notSent _ _ s (mt (anyPending_syncEntry g s).mp h)]
    exact ih

/-- The records that groups make from a sequence on, as they enter one after another (R84, R108). -/
def answerRecords (s : State) : Word16 → List (List SyncEntry) → List TxRecord
  | _, [] => []
  | q, g :: groups => { newRecord (.syncEntry g) s.zoneStore.clock s with sequence := q } :: answerRecords s (q + 1) groups

theorem answerRecords_setTx (s : State) (x : TransmitQueue) (q : Word16) (groups : List (List SyncEntry)) :
    answerRecords (s.setTx x) q groups = answerRecords s q groups := by
  induction groups generalizing q with
  | nil => rfl
  | cons g groups ih =>
    rw [answerRecords, answerRecords, ih]
    rfl

theorem answerRecords_payloads (s : State) (q : Word16) (groups : List (List SyncEntry)) :
    (answerRecords s q groups).map (fun r => (r.payload, r.stamp)) = groups.map (fun g => (.syncEntry g, s.zoneStore.clock)) := by
  induction groups generalizing q with
  | nil => rfl
  | cons g groups ih =>
    rw [answerRecords, List.map_cons, List.map_cons, ih]
    rfl

theorem answerRecords_fresh (s : State) (q : Word16) (groups : List (List SyncEntry)) :
    ∀ r ∈ answerRecords s q groups, r.copies = newCopies false s ∧ r.attempts = ⟨0, 0⟩ ∧ r.startTag = s.node.startTag := by
  induction groups generalizing q with
  | nil => simp [answerRecords]
  | cons g groups ih => exact List.forall_mem_cons.mpr ⟨⟨rfl, rfl, rfl⟩, ih (q + 1)⟩

@[simp] theorem answerRecords_length (s : State) (q : Word16) (groups : List (List SyncEntry)) :
    (answerRecords s q groups).length = groups.length := by
  simpa using congrArg List.length (answerRecords_payloads s q groups)

theorem offerEntries_enters (g : List SyncEntry) (s : State) (h : someLaneUp s) (hroom : s.tx.records.length < 16) :
    (offerRecord (.syncEntry g) s.zoneStore.clock s).state =
      s.setTx { records := s.tx.records ++ [newRecord (.syncEntry g) s.zoneStore.clock s], nextSequence := s.tx.nextSequence + 1 } := by
  rw [offerRecord_room _ _ s ((anyPending_syncEntry g s).mpr h) hroom]

theorem offerEntries_drops (g : List SyncEntry) (s : State) (h : someLaneUp s) (hfull : 16 ≤ s.tx.records.length) :
    (offerRecord (.syncEntry g) s.zoneStore.clock s).state = dropRecord s := by
  rw [offerRecord_drops _ _ s ((anyPending_syncEntry g s).mpr h) hfull (.inl rfl)]

/-- With a lane UP and room for all of them the records enter in order (R85). -/
theorem offerAnswers_room (groups : List (List SyncEntry)) (s : State) (h : someLaneUp s)
    (hroom : groups.length ≤ 16 - s.tx.records.length) :
    offerAnswers groups s =
      s.setTx { records := s.tx.records ++ answerRecords s s.tx.nextSequence groups,
                nextSequence := s.tx.nextSequence + BitVec.ofNat 16 groups.length } := by
  induction groups generalizing s with
  | nil =>
    simp only [answerRecords, List.append_nil, List.length_nil, BitVec.add_zero]
    rfl
  | cons g groups ih =>
    rw [List.length_cons] at hroom
    rw [offerAnswers_cons, offerEntries_enters g s h (by omega), ih _ (someLaneUp_setTx.mpr h) (by simp; omega), answerRecords_setTx]
    have hsequence : s.tx.nextSequence + 1 + BitVec.ofNat 16 groups.length = s.tx.nextSequence + BitVec.ofNat 16 (groups.length + 1) := by
      rw [Nat.add_comm, BitVec.ofNat_add, ← BitVec.add_assoc]
      rfl
    rw [List.length_cons, ← hsequence]
    simp [answerRecords, newRecord]

/-- A full queue drops every one of them (R86). -/
theorem offerAnswers_full (groups : List (List SyncEntry)) (s : State) (h : someLaneUp s) (hfull : 16 ≤ s.tx.records.length) :
    offerAnswers groups s = dropRecord^[groups.length] s := by
  induction groups generalizing s with
  | nil => rfl
  | cons g groups ih =>
    rw [offerAnswers_cons, offerEntries_drops g s h hfull, List.length_cons, Function.iterate_succ_apply]
    exact ih _ (by simpa [someLaneUp] using h) (by simpa using hfull)

/-! ## Drops one after another -/

@[simp] theorem drops_tx (n : Nat) (s : State) : (dropRecord^[n] s).tx = s.tx := by
  induction n with
  | zero => rfl
  | succ n ih => rw [Function.iterate_succ_apply', (dropRecord_frame _).2.2.2.2.2.2.1, ih]

theorem oneMore_toNat (v : Word32) : (oneMore v).toNat = min maxWord.toNat (v.toNat + 1) := by
  unfold oneMore
  split
  · next h => simp [h, maxWord]
  · next h =>
    have hlt := (v + 1).isLt
    rw [newStamp_toNat v h] at hlt ⊢
    simp only [maxWord, BitVec.toNat_ofNat]
    omega

/-- Drops are counted one by one, the counter stopping at its greatest value (R174). -/
theorem drops_counted (n : Nat) (s : State) :
    ((dropRecord^[n] s).counters.live[nodeIndex .txDrop]).toNat =
      min maxWord.toNat ((s.counters.live[nodeIndex .txDrop]).toNat + n) := by
  induction n with
  | zero =>
    have hlt := (s.counters.live[nodeIndex .txDrop]).isLt
    simp only [Function.iterate_zero, id_eq, maxWord, BitVec.toNat_ofNat]
    omega
  | succ n ih =>
    rw [Function.iterate_succ_apply', dropRecord_counters, countNode, countAt_live, if_pos rfl, oneMore_toNat, ih]
    omega

/-- Drops are raised one by one, the count of the record stopping at 255 (R179). -/
theorem drops_raised (n : Nat) (s : State) (h : 0 < n) :
    (dropRecord^[n] s).events.records.txDrop =
      some (BitVec.ofNat 8 (min 255 ((s.events.records.txDrop.getD 0).toNat + n))) := by
  induction n with
  | zero => exact absurd h (by omega)
  | succ n ih =>
    rw [Function.iterate_succ_apply', dropRecord_txDrop]
    rcases Nat.eq_zero_or_pos n with rfl | hn
    · rfl
    · rw [ih hn, Option.getD_some, BitVec.toNat_ofNat]
      congr 2
      omega

/-! ## Some enter and the rest are dropped -/

/-- The records that enter while the queue has room, and their count on the sequence (R84, R85). -/
def answersEntered (groups : List (List SyncEntry)) (s : State) : TransmitQueue :=
  { records := s.tx.records ++ answerRecords s s.tx.nextSequence (groups.take (16 - s.tx.records.length)),
    nextSequence := s.tx.nextSequence + BitVec.ofNat 16 (min (16 - s.tx.records.length) groups.length) }

/-- With a lane UP the answers enter while the queue has room, and the rest are dropped (R85, R86). -/
theorem offerAnswers_up (groups : List (List SyncEntry)) (s : State) (h : someLaneUp s) :
    offerAnswers groups s = dropRecord^[groups.length - (16 - s.tx.records.length)] (s.setTx (answersEntered groups s)) := by
  set room := 16 - s.tx.records.length with hroom
  have hsplit : offerAnswers groups s = offerAnswers (groups.drop room) (offerAnswers (groups.take room) s) := by
    unfold offerAnswers
    rw [← List.foldl_append, List.take_append_drop]
  have hentered : offerAnswers (groups.take room) s = s.setTx (answersEntered groups s) := by
    rw [offerAnswers_room _ s h (by simp [hroom]), List.length_take]
    rfl
  rw [hsplit, hentered]
  rcases Nat.lt_or_ge room groups.length with hmore | hall
  · have hfull : 16 ≤ (s.setTx (answersEntered groups s)).tx.records.length := by
      simp [answersEntered]
      omega
    rw [offerAnswers_full _ _ (someLaneUp_setTx.mpr h) hfull, List.length_drop]
  · rw [List.drop_eq_nil_of_le hall, Nat.sub_eq_zero_of_le hall]
    rfl

/-! ## BACKOFF_EXPIRY -/

theorem exec_backoffExpiry (s : State) (h : s.catchUp.backoff ≠ .stopped) :
    exec .backoffExpiry s = .next (answerAll (expiryOf s.catchUp.backoff s)) :=
  if_pos (Timer.isRunning_of_ne h)

/-- Settles O36: the groups and their entries by their lemmas, the records by `offerAnswers_up` and `offerAnswers_unsent`. -/
theorem backoffExpiryAnswers : Obligations.BackoffExpiryAnswers := by
  unfold Obligations.BackoffExpiryAnswers
  intro s hrun u entries groups room
  have hall : answerAll u = (offerAnswers groups u).setCatchUp { u.catchUp with answers := 0, backoff := .stopped } := by
    rw [answerAll_eq, offerAnswers_catchUp]
    rfl
  refine ⟨groupsOfFour_flatten entries, groupsOfFour_sizes entries, groupsOfFour_full entries, answerEntries_ascending _ _,
    mem_answerEntries _ _, answerAll u, exec_backoffExpiry s hrun, by rw [hall]; rfl, fun hup => ?up, fun ha hb => ?unsent, ?frame⟩
  case up =>
    have ht : answerAll u = (dropRecord^[groups.length - room] (u.setTx (answersEntered groups u))).setCatchUp _ :=
      hall.trans (congrArg (State.setCatchUp · _) (offerAnswers_up groups u hup))
    rw [ht]
    refine ⟨⟨answerRecords u s.tx.nextSequence (groups.take room), ?_, answerRecords_payloads u _ _, answerRecords_fresh u _ _⟩,
      ?_, ?_, fun hfits => ?_, fun hmore => ?_⟩
    · rw [State.setCatchUp_tx, drops_tx]
      rfl
    · rw [State.setCatchUp_tx, drops_tx]
      rfl
    · exact drops_counted _ _
    · rw [Nat.sub_eq_zero_of_le hfits]
      exact ⟨rfl, rfl⟩
    · exact drops_raised _ _ (by omega)
  case unsent =>
    rw [hall, offerAnswers_unsent groups u (fun hup => hup.elim ha hb)]
    rfl
  case frame =>
    rw [hall, offerAnswers_changes groups u]
    rfl

end Sys2Proof.Machine
end

section
/-! The ends of the catch-up: the window's expiry, a failed ask and its retry, and an ask whose last copy fails: O34. -/

namespace Sys2Proof.Machine

open Sys2Proof

/-! ## The window's expiry -/

theorem exec_catchUpWindowExpiry (s : State) (h : s.catchUp.window ≠ .stopped) :
    exec .catchUpWindowExpiry s = .next (enterRunning .complete (expiryOf s.catchUp.window s)) :=
  if_pos (Timer.isRunning_of_ne h)

/-- The release of an empty Held List changes nothing. -/
theorem releaseHeld_empty (s : State) (h : s.catchUp.held = []) : releaseHeld s = s := by
  unfold releaseHeld
  rw [h, List.foldl_nil, ← h]
  rfl

/-- RUNNING as it is entered complete, its PRESENCE and the Held List still to come (R105). -/
def beginRunning (s : State) : State :=
  raise (.catchUpDone .complete)
    ((s.setCatchUp { s.catchUp with asker := .finished, window := .stopped }).setNode { s.node with phase := .running })

theorem enterRunning_complete (s : State) : enterRunning .complete s = releaseHeld (createPresence (beginRunning s)) := rfl

/-- With nothing held the entry of RUNNING ends with its PRESENCE. -/
theorem enterRunning_complete_unheld (s : State) (h : s.catchUp.held = []) :
    enterRunning .complete s = createPresence (beginRunning s) := by
  rw [enterRunning_complete, releaseHeld_empty]
  rw [createPresence_catchUp]
  exact h

/-- The PRESENCE that announces RUNNING is offered to the queue as the entry of RUNNING found it (R70, R105). -/
theorem createPresence_beginRunning_tx (s : State) :
    (createPresence (beginRunning s)).tx =
      if s.tx.records.any (fun r => r.payload.isPresence && r.live) then s.tx
      else (offerRecord (.presence (s.zoneStore.checksum.getD 0) .running s.catchUp.incomplete (fewLanes s)) s.zoneStore.clock s).state.tx := by
  rw [createPresence_tx (beginRunning s) .running rfl]
  exact congrArg (ite _ s.tx) (offerRecord_congr _ _ s (beginRunning s) rfl rfl rfl rfl).2.2

/-- The entry of RUNNING moves the phase, the Catch-Up Unit and what publications move. -/
theorem enterRunning_changes (how : Completion) (s : State) :
    enterRunning how s =
      { s with node := (enterRunning how s).node, catchUp := (enterRunning how s).catchUp, zoneStore := (enterRunning how s).zoneStore,
               heads := (enterRunning how s).heads, occupancy := (enterRunning how s).occupancy, tx := (enterRunning how s).tx,
               counters := (enterRunning how s).counters, events := (enterRunning how s).events } := by
  apply State.eq_of_fields <;> simp only [enterRunning_frame]

/-! ## The failed ask -/

theorem askFailed_unasked (s : State) (h : s.catchUp.asker ≠ .asking) : askFailed s = s := if_neg h

/-- A second failure ends the catch-up incomplete (R103). -/
theorem askFailed_again (s : State) (h : s.catchUp.asker = .asking) (hr : s.catchUp.retry = true) :
    askFailed s = enterRunning .incomplete s :=
  (if_pos h).trans (if_pos hr)

/-- A first failure is retried at once, and a retry that is not entered ends the catch-up incomplete (R103). -/
theorem askFailed_first (s : State) (h : s.catchUp.asker = .asking) (hr : s.catchUp.retry = false) :
    askFailed s =
      if (offerAsk (s.setCatchUp { s.catchUp with retry := true })).outcome = .entered then
        (offerAsk (s.setCatchUp { s.catchUp with retry := true })).state
      else enterRunning .incomplete (offerAsk (s.setCatchUp { s.catchUp with retry := true })).state :=
  (if_pos h).trans (if_neg (by simp [hr]))

/-- An ask that is entered stands at the newest end of the queue, with the clock of that moment (R101). -/
theorem offerAsk_records (s : State) (h : (offerAsk s).outcome = .entered) :
    (offerAsk s).state.tx.records = s.tx.records ++ [newRecord (.syncAsk allZones) s.zoneStore.clock s] := by
  have hout : askGoesOut s := by
    by_contra hvain
    exact (offerAsk_vain s hvain).1 h
  rw [offerAsk_entered s hout]
  rfl

/-! ## An ask whose last copy fails -/

/-- A lane has at most one copy in flight: no record beside it has another. -/
theorem flyingOn_alone (L : Lane) (older younger : List TxRecord) (r : TxRecord) (h : flyingOn L (older ++ r :: younger) ≤ 1)
    (hr : r.copies.get L = .inFlight) : ∀ q ∈ older, q.copies.get L ≠ .inFlight := by
  intro q hq hfly
  have hone : 1 ≤ flyingOn L older := List.countP_pos_iff.mpr ⟨q, hq, by simp [hfly]⟩
  have hsum : flyingOn L (older ++ r :: younger) = flyingOn L older + (flyingOn L younger + 1) := by
    simp [flyingOn, hr]
  omega

/-- A report that an ask was lost is a report that it failed. -/
theorem reportLost_true (s : State) : reportLost true s = askFailed s := rfl

/-- One record at rest leaves the queue, and is reported if it is an unsent SYNC_ASK (R93, R94). -/
theorem settle_one (s : State) (older younger : List TxRecord) (r : TxRecord) (h : s.tx.records = older ++ r :: younger)
    (hlive : ∀ q ∈ older ++ younger, q.live = true) (hr : r.live = false) :
    settle s = reportLost r.unsentAsk (s.setTx { s.tx with records := older ++ younger }) := by
  have holder : ∀ q ∈ older, q.live = true := fun q hq => hlive q (List.mem_append_left _ hq)
  have hyounger : ∀ q ∈ younger, q.live = true := fun q hq => hlive q (List.mem_append_right _ hq)
  have hleave : s.tx.records.filter (fun q => !q.live) = [r] := by
    rw [h, List.filter_append, List.filter_cons_of_pos (by simp [hr]), List.filter_eq_nil_iff.mpr (by simpa using holder),
      List.filter_eq_nil_iff.mpr (by simpa using hyounger)]
    rfl
  have hstay : s.tx.records.filter TxRecord.live = older ++ younger := by
    rw [h, List.filter_append, List.filter_cons_of_neg (by simp [hr]), List.filter_eq_self.mpr holder, List.filter_eq_self.mpr hyounger]
  rw [settle, hleave, hstay]
  rfl

/-- A record after the last failed attempt of its copy on a lane (R43, R90). -/
def exhaustCopy (L : Lane) (r : TxRecord) : TxRecord :=
  { r.setCopy L .abandoned with attempts := r.attempts.put L lastAttempt }

/-- The sixteenth failed attempt abandons the copy, counts it, and settles the queue (R43, R90). -/
theorem failAttempt_last (L : Lane) (s : State) (older younger : List TxRecord) (r : TxRecord) (h : s.tx.records = older ++ r :: younger)
    (hold : ∀ q ∈ older, q.copies.get L ≠ .inFlight) (hr : r.copies.get L = .inFlight) (hn : r.attempts.get L = 15) :
    failAttempt L s = settle (countAbandon L
      ((countLane L .txAbandoned (countLane L .txContention s)).setTx { s.tx with records := older ++ exhaustCopy L r :: younger })) := by
  have htx : (countLane L .txAbandoned (countLane L .txContention s)).tx = s.tx := by simp
  unfold failAttempt
  rw [h, inFlightOn_first L older younger r hold hr]
  dsimp only
  rw [hn, if_neg (by decide), changeInFlight_records L _ _ older younger r (by rw [htx, h]) hold hr, htx]
  rfl

/-- The first abandon in a row on an UP lane is counted (R44). -/
theorem countAbandon_up (L : Lane) (s : State) (hup : (s.lanes.get L).state = .up) (hz : (s.lanes.get L).abandons = 0) :
    countAbandon L s = s.setLanes (s.lanes.put L { state := .up, abandons := 1 }) := by
  unfold countAbandon
  dsimp only
  rw [if_pos hup, if_neg (by omega), hz, ← hup]
  rfl

theorem unsentAsk_iff (r : TxRecord) (L : Lane) :
    r.unsentAsk = (r.payload.isAsk && r.copies.get L != .sent && r.copies.get L.other != .sent) := by
  cases L
  · rfl
  · simp only [TxRecord.unsentAsk, PerLane.get, Lane.other, Bool.and_right_comm]

/-- With its other copy at rest and unsent, an ask whose copy has failed for the last time is at rest and unsent. -/
theorem exhaustCopy_unsent (L : Lane) (r : TxRecord) (hask : r.payload.isAsk = true)
    (hother : r.copies.get L.other = .abandoned ∨ r.copies.get L.other = .notUsed) :
    (exhaustCopy L r).live = false ∧ (exhaustCopy L r).unsentAsk = true := by
  have hthis : (exhaustCopy L r).copies.get L = .abandoned := TxRecord.setCopy_get r L .abandoned
  have hthat : (exhaustCopy L r).copies.get L.other = r.copies.get L.other := TxRecord.setCopy_get_other r L .abandoned
  have hpayload : (exhaustCopy L r).payload.isAsk = true := hask
  rw [live_iff _ L, unsentAsk_iff _ L, hthis, hthat, hpayload]
  rcases hother with h | h
  · rw [h]
    exact ⟨rfl, rfl⟩
  · rw [h]
    exact ⟨rfl, rfl⟩

/-- An ask that leaves by its sixteenth failed attempt is a failed ask (R90, R94). -/
theorem exec_contestLost_lastAsk (L : Lane) (s : State) (older younger : List TxRecord) (r : TxRecord) (hq : QueueSound s)
    (h : s.tx.records = older ++ r :: younger) (hask : r.payload.isAsk = true) (hr : r.copies.get L = .inFlight)
    (hn : r.attempts.get L = 15) (hother : r.copies.get L.other = .abandoned ∨ r.copies.get L.other = .notUsed)
    (hup : (s.lanes.get L).state = .up) (hz : (s.lanes.get L).abandons = 0) :
    exec (.contestLost L) s = .next (askFailed
      (((countLane L .txAbandoned (countLane L .txContention s)).setLanes (s.lanes.put L { state := .up, abandons := 1 })).setTx
        { s.tx with records := older ++ younger })) := by
  have hlanes : (countLane L .txAbandoned (countLane L .txContention s)).lanes = s.lanes := by simp
  have hold : ∀ q ∈ older, q.copies.get L ≠ .inFlight := flyingOn_alone L older younger r (h ▸ hq.flying L) hr
  have hlive : ∀ q ∈ older ++ younger, q.live = true := fun q hmem => by
    refine List.all_eq_true.mp hq.live q ?_
    rw [h]
    exact ((List.sublist_cons_self r younger).append_left older).subset hmem
  obtain ⟨hrest, hunsent⟩ := exhaustCopy_unsent L r hask hother
  have hfail : exec (.contestLost L) s = .next (failAttempt L s) := rfl
  rw [hfail, failAttempt_last L s older younger r h hold hr hn, countAbandon_up L _ (by simpa using hup) (by simpa using hz),
    settle_one _ older younger (exhaustCopy L r) rfl hlive hrest, hunsent, State.setTx_lanes, hlanes,
    reportLost_true]
  generalize countLane L .txAbandoned (countLane L .txContention s) = counted
  rfl

/-- Settles O34: the window's expiry as the entry of RUNNING, the failed ask by its cases, and the ask that dies by `exec_contestLost_lastAsk`. -/
theorem windowExpiryEntersRunning : Obligations.WindowExpiryEntersRunning := by
  unfold Obligations.WindowExpiryEntersRunning
  refine ⟨?expiry, ?failed, exec_contestLost_lastAsk⟩
  case expiry =>
    intro s hrun u
    refine ⟨enterRunning .complete u, exec_catchUpWindowExpiry s hrun, enterRunning_node _ u, enterRunning_catchUp _ u,
      enterRunning_done _ u, fun hheld => ?_, rfl, enterRunning_changes _ u⟩
    rw [enterRunning_complete_unheld u hheld]
    obtain ⟨-, -, -, -, hzone, -, hocc, -, hheads, -⟩ := createPresence_frame (beginRunning u)
    refine ⟨?_, hzone, hocc, hheads⟩
    rw [createPresence_beginRunning_tx]
    exact congrArg (ite _ s.tx) (offerRecord_congr _ _ s u rfl rfl rfl rfl).2.2
  case failed =>
    intro s entered retried
    have hretried : offerAsk (s.setCatchUp { s.catchUp with retry := true }) = retried := rfl
    refine ⟨askFailed_unasked s, askFailed_again s, fun ha hf hvain => ?_, fun ha hf hin => ?_⟩
    · rw [askFailed_first s ha hf, hretried, if_neg hvain]
      rfl
    · have hasked : askFailed s = retried.state := by rw [askFailed_first s ha hf, hretried, if_pos hin]
      rw [hasked]
      refine ⟨rfl, ?_, newRecord (.syncAsk allZones) s.zoneStore.clock (s.setCatchUp { s.catchUp with retry := true }), rfl, rfl,
        offerAsk_records _ hin⟩
      rw [← hretried, (offerAsk_frame _).2.2.2.2.2.1]
      rfl

end Sys2Proof.Machine
end

section
/-! The Held List's additions and its release, and PUBLISH_OCCUPY by phase: O37 and O40. -/

namespace Sys2Proof.Machine

open Sys2Proof

/-! ## Additions to the Held List -/

/-- With an OCCUPY held a newer one merges into it, in its place and whatever the length (R112). -/
theorem holdRequest_merges (zones held : ZoneSet) (cause old : WakeCause) (before after : List HeldRequest) (s : State)
    (hs : s.catchUp.held = before ++ .occupy held old :: after) (hfirst : before.countP HeldRequest.isOccupy = 0) :
    holdRequest (.occupy zones cause) s =
      { state := s.setCatchUp { s.catchUp with held := before ++ .occupy (held ||| zones) cause :: after }, result := .held } := by
  rw [holdRequest, hs, mergeHeldOccupy_at zones held cause old before after hfirst]

/-- A request with no held OCCUPY to merge into is held in its turn (R111). -/
theorem holdRequest_joins (h : HeldRequest) (s : State)
    (hnew : h.isOccupy = false ∨ s.catchUp.held.countP HeldRequest.isOccupy = 0) : holdRequest h s = appendHeld h s := by
  rcases hnew with hother | hnone
  · exact holdRequest_append h s hother
  · cases h with
    | occupy zones cause => rw [holdRequest, mergeHeldOccupy_none zones cause _ hnone]
    | _ => rfl

/-! ## The release of the Held List -/

/-- The release performs the first held request on a list already emptied, and then releases the rest (R113). -/
theorem releaseHeld_cons (h : HeldRequest) (rest : List HeldRequest) (s : State) (hs : s.catchUp.held = h :: rest) :
    releaseHeld s =
      releaseHeld (((performHeld h (s.setCatchUp { s.catchUp with held := [] })).state).setCatchUp { s.catchUp with held := rest }) := by
  have hcatchUp : (performHeld h (s.setCatchUp { s.catchUp with held := [] })).state.catchUp = { s.catchUp with held := [] } := by simp
  unfold releaseHeld
  rw [hs, List.foldl_cons]
  generalize (performHeld h (s.setCatchUp { s.catchUp with held := [] })).state = first at hcatchUp ⊢
  have hemptied : (first.setCatchUp { s.catchUp with held := rest }).setCatchUp { s.catchUp with held := [] } = first := by
    rw [← hcatchUp]
    rfl
  exact congrArg (rest.foldl fun s h => (performHeld h s).state) hemptied.symm

/-- Settles O37: what is held by `holdRequest_merges` and `holdRequest_joins`, the release one request at a time by `releaseHeld_cons`. -/
theorem heldListMergesAndReleases : Obligations.HeldListMergesAndReleases := by
  unfold Obligations.HeldListMergesAndReleases
  refine ⟨fun h zones held cause old before after s => ⟨?merges, fun hnew => ⟨fun hroom => ?room, fun hfull => ?full⟩⟩,
    releaseHeld_empty, releaseHeld_cons⟩
  case merges => exact holdRequest_merges zones held cause old before after s
  case room => rw [holdRequest_joins h s hnew, appendHeld_room h s hroom]
  case full => rw [holdRequest_joins h s hnew, appendHeld_full h s hfull]

/-! ## PUBLISH_OCCUPY -/

/-- A PUBLISH_OCCUPY of some zone is answered with what the phase makes of it. -/
theorem exec_publishOccupy (zones : ZoneSet) (s : State) (hport : s.port = .opened) (hzones : zones ≠ 0)
    (hphase : s.node.phase ≠ .loading) :
    exec (.publishOccupy zones) s =
      .next (answeredWith (requestOccupy zones .port s).result (requestOccupy zones .port s).state) := by
  have hargs : occupyArg zones = some zones := if_neg hzones
  simp only [exec, execPublishOccupy]
  rw [serve_opened _ _ _ _ hport, hargs, screen_served _ _ _ _ (fun h => absurd h hphase) (fun h => absurd h (by decide))
    (fun h => absurd h (by decide))]
  rfl

section
variable (zones : ZoneSet) (cause : WakeCause) (s : State)

/-- The wakes of a zone set touch the Occupancy Unit, the heads and the events alone. -/
theorem wakeSet_changes :
    wakeSet cause zones s =
      { s with occupancy := (wakeSet cause zones s).occupancy, heads := (wakeSet cause zones s).heads,
               events := (wakeSet cause zones s).events } := by
  apply State.eq_of_fields <;> simp

/-- A performed OCCUPY wakes the listed zones, and its offer wakes no other. -/
theorem performOccupy_occupancy : (performOccupy zones cause s).state.occupancy = (wakeSet cause zones s).occupancy := by
  simp [performOccupy, publishedBy]

/-- A performed OCCUPY is answered as its record's offer to the queue as it was before (R129). -/
theorem performOccupy_result :
    (performOccupy zones cause s).result = (offerRecord (.occupy zones) s.zoneStore.clock s).outcome.result := by
  have hclock : (wakeSet cause zones s).zoneStore.clock = s.zoneStore.clock := by simp
  rw [performOccupy, publishedBy]
  dsimp only
  rw [hclock, (offerRecord_congr _ _ s (wakeSet cause zones s) (by simp) (by simp) (by simp) (by simp)).1]

end

/-- Settles O40: the request goes by the phase; its wakes are `wakeSet`'s, its announcement is `performOccupy`'s offer or a held request. -/
theorem publishOccupyWakesThenAnnounces : Obligations.PublishOccupyWakesThenAnnounces := by
  unfold Obligations.PublishOccupyWakesThenAnnounces
  intro zones s hport hzones
  have hexec (hn : s.node.phase ≠ .loading) := exec_publishOccupy zones s hport hzones hn
  have hwaiting (hp : s.node.phase = .listen ∨ s.node.phase = .catchUp) :
      exec (.publishOccupy zones) s =
        .next (answeredWith (holdRequest (.occupy zones .port) (wakeSet .port zones s)).result
          (holdRequest (.occupy zones .port) (wakeSet .port zones s)).state) := by
    rw [hexec (by rcases hp with hp | hp <;> simp [hp]), requestOccupy_waiting zones .port s hp]
  refine ⟨fun hp ha => ?running, fun hp hroom hnone => ?joins, fun hp => ?held, fun hp => ?mute, fun hp => ?refused⟩
  case running =>
    intro offer
    rw [hexec (by simp [hp]), requestOccupy_finished zones .port s hp ha]
    refine ⟨_, rfl, fun z => ?_, ?_, performOccupy_tx zones .port s, ?_, ?_⟩
    · exact (congrArg (fun o => o.records[z]) (performOccupy_occupancy zones .port s)).trans (wakeSet_record .port zones s z)
    · exact (congrArg OccupancyUnit.config (performOccupy_occupancy zones .port s)).trans (wakeAll_config .port (members zones) s)
    · exact congrArg (fun code => Transaction.answered [code.byte] false) (performOccupy_result zones .port s)
    · exact congrArg (answeredWith _) (performOccupy_changes zones .port s)
  case joins =>
    have hheld : (wakeSet .port zones s).catchUp = s.catchUp := by simp
    rw [hwaiting hp, holdRequest_joins _ _ (.inr (by rw [hheld]; exact hnone)), appendHeld_room _ _ (by rw [hheld]; exact hroom), hheld]
    refine ⟨_, rfl, wakeSet_record .port zones s, rfl, rfl, ?_⟩
    exact congrArg
      (fun woken => answeredWith .held (woken.setCatchUp { s.catchUp with held := s.catchUp.held ++ [.occupy zones .port] }))
      (wakeSet_changes zones .port s)
  case held =>
    intro held
    exact ⟨hwaiting hp, by simp [held], by simp [held], fun z => by simpa [held] using wakeSet_record .port zones s z⟩
  case mute =>
    rw [hexec (by simp [hp]), requestOccupy_mute zones .port s hp]
    exact ⟨rfl, by simp, wakeSet_record .port zones s⟩
  case refused =>
    by_cases hn : s.node.phase = .loading
    · exact serve_loading _ _ _ s hport hn rfl
    · rw [hexec hn, requestOccupy_refused zones .port s hp]

end Sys2Proof.Machine
end

section
/-! Which commands move the phase, and how: O10. -/

namespace Sys2Proof.Machine

open Sys2Proof

/-! ## Steps by which the ask may end -/

/-- An asker in ASKING or WINDOW is in CATCH_UP (R100). -/
theorem PhaseSound.catchUp_of_asker {s : State} (hs : PhaseSound s) (h : s.catchUp.asker = .asking ∨ s.catchUp.asker = .window) :
    s.node.phase = .catchUp := by
  have hallowed := hs.asker
  cases hp : s.node.phase with
  | catchUp => rfl
  | _ => rcases h with h | h <;> rw [hp, h] at hallowed <;> exact absurd hallowed (by decide)

/-- From `s` to `t` the phase stays and no ask begins, or the ask of `s` has failed for the second time and RUNNING is entered incomplete (R103). -/
def AskMayEnd (s t : State) : Prop :=
  (t.node.phase = s.node.phase ∧ t.catchUp.incomplete = s.catchUp.incomplete ∧
    (t.catchUp.asker = .asking → s.catchUp.asker = .asking)) ∨
  (s.catchUp.asker = .asking ∧ t.node.phase = .running ∧ t.catchUp.incomplete = true ∧ t.catchUp.asker ≠ .asking)

namespace AskMayEnd

theorem of_kept {s t : State} (phase : t.node.phase = s.node.phase) (asker : t.catchUp.asker = s.catchUp.asker)
    (incomplete : t.catchUp.incomplete = s.catchUp.incomplete) : AskMayEnd s t :=
  .inl ⟨phase, incomplete, fun h => asker ▸ h⟩

theorem of_eq {s t : State} (h : t.node = s.node ∧ t.catchUp = s.catchUp) : AskMayEnd s t :=
  of_kept (by rw [h.1]) (by rw [h.2]) (by rw [h.2])

theorem refl (s : State) : AskMayEnd s s := of_eq ⟨rfl, rfl⟩

theorem trans {s t u : State} (h : AskMayEnd s t) (h' : AskMayEnd t u) : AskMayEnd s u := by
  rcases h with ⟨hphase, hinc, hasks⟩ | ⟨hs, hphase, hinc, hdone⟩
  · rcases h' with ⟨hphase', hinc', hasks'⟩ | ⟨ht, hended⟩
    · exact .inl ⟨hphase'.trans hphase, hinc'.trans hinc, hasks ∘ hasks'⟩
    · exact .inr ⟨hasks ht, hended⟩
  · rcases h' with ⟨hphase', hinc', hasks'⟩ | ⟨ht, -⟩
    · exact .inr ⟨hs, hphase'.trans hphase, hinc'.trans hinc, hdone ∘ hasks'⟩
    · exact absurd ht hdone

/-- A turn that leaves the phase and the Catch-Up Unit may come first. -/
theorem after_eq {s t u : State} (h : t.node = s.node ∧ t.catchUp = s.catchUp) (h' : AskMayEnd t u) : AskMayEnd s u :=
  (of_eq h).trans h'

/-- The passing of time moves no phase and no asker. -/
theorem after_time {s u : State} (n : Nat) (h : AskMayEnd (passBy n s) u) : AskMayEnd s u :=
  trans (t := passBy n s) (of_kept rfl rfl rfl) h

/-- Where such a step moves the phase, an ask made in CATCH_UP has ended incomplete. -/
theorem ended {s t : State} (h : AskMayEnd s t) (hs : PhaseSound s) (hne : t.node.phase ≠ s.node.phase) :
    s.node.phase = .catchUp ∧ s.catchUp.asker = .asking ∧ t.node.phase = .running ∧ t.catchUp.incomplete = true := by
  rcases h with ⟨hphase, -⟩ | ⟨hasking, hrunning, hinc, -⟩
  · exact absurd hphase hne
  · exact ⟨hs.catchUp_of_asker (.inl hasking), hasking, hrunning, hinc⟩

end AskMayEnd

/-! ## The asker and the requests -/

theorem enterRunning_endsAsk (s : State) (h : s.catchUp.asker = .asking) : AskMayEnd s (enterRunning .incomplete s) := by
  refine .inr ⟨h, ?_, ?_, ?_⟩
  · rw [enterRunning_node]
  · rw [enterRunning_catchUp]
  · rw [enterRunning_catchUp]
    simp

theorem askFailed_mayEnd (s : State) : AskMayEnd s (askFailed s) := by
  by_cases hasking : s.catchUp.asker = .asking
  · cases hretry : s.catchUp.retry with
    | true => rw [askFailed_again s hasking hretry]; exact enterRunning_endsAsk s hasking
    | false =>
      have hoffer : AskMayEnd s (offerAsk (s.setCatchUp { s.catchUp with retry := true })).state :=
        .of_kept (by simp) (by simp) (by simp)
      rw [askFailed_first s hasking hretry]
      split
      · exact hoffer
      · exact hoffer.trans (enterRunning_endsAsk _ (by simpa using hasking))
  · rw [askFailed_unasked s hasking]
    exact .refl s

theorem reportLost_mayEnd (lost : Bool) (s : State) : AskMayEnd s (reportLost lost s) := by
  cases lost
  · exact .refl s
  · exact askFailed_mayEnd s

/-- A report that an ask was sent ends ASKING and moves no phase (R102). -/
theorem askSent_mayEnd (s : State) : AskMayEnd s (askSent s) := by
  unfold askSent
  split
  · exact .inl ⟨rfl, rfl, fun h => absurd h (by simp)⟩
  · exact .refl s

theorem holdRequest_mayEnd (h : HeldRequest) (s : State) : AskMayEnd s (holdRequest h s).state := by
  have happend : AskMayEnd s (appendHeld h s).state := by
    unfold appendHeld
    split
    · exact .of_kept rfl rfl rfl
    · exact .of_eq (by simp)
  cases h with
  | occupy zones cause =>
    unfold holdRequest
    split
    · split
      · exact .of_kept rfl rfl rfl
      · exact happend
    all_goals exact happend
  | _ => exact happend

theorem answerOf_mayEnd {s : State} {p : Published} (h : p.state.node = s.node ∧ p.state.catchUp = s.catchUp) :
    AskMayEnd s (answerOf p).state :=
  .after_eq h (reportLost_mayEnd _ _)

theorem requestByPhase_mayEnd (h : HeldRequest) (s : State) : AskMayEnd s (requestByPhase h s).state := by
  cases hp : s.node.phase with
  | listen => rw [requestByPhase_waiting h s (.inl hp)]; exact holdRequest_mayEnd h s
  | catchUp => rw [requestByPhase_waiting h s (.inr hp)]; exact holdRequest_mayEnd h s
  | running => rw [requestByPhase_running h s hp]; exact answerOf_mayEnd (by simp)
  | mute => rw [requestByPhase_mute h s hp]; exact .refl s
  | commission => rw [requestByPhase_refused h s (.inl hp)]; exact .refl s
  | loading => rw [requestByPhase_refused h s (.inr hp)]; exact .refl s

theorem requestOccupy_mayEnd (zones : ZoneSet) (cause : WakeCause) (s : State) : AskMayEnd s (requestOccupy zones cause s).state := by
  have hwaiting : AskMayEnd s (holdRequest (.occupy zones cause) (wakeSet cause zones s)).state :=
    .after_eq (by simp) (holdRequest_mayEnd _ _)
  cases hp : s.node.phase with
  | listen => rw [requestOccupy_waiting zones cause s (.inl hp)]; exact hwaiting
  | catchUp => rw [requestOccupy_waiting zones cause s (.inr hp)]; exact hwaiting
  | running =>
    have hperformed : requestOccupy zones cause s = answerOf (performOccupy zones cause s) := by simp [requestOccupy, hp]
    rw [hperformed]
    exact answerOf_mayEnd (by simp)
  | mute => rw [requestOccupy_mute zones cause s hp]; exact .of_eq (by simp)
  | commission => rw [requestOccupy_refused zones cause s (.inl hp)]; exact .refl s
  | loading => rw [requestOccupy_refused zones cause s (.inr hp)]; exact .refl s

theorem requestOfKind_mayEnd (kind : InputKind) (s : State) : AskMayEnd s (requestOfKind kind s) := by
  match kind with
  | .unused => exact .refl s
  | .sensor _ => exact requestOccupy_mayEnd _ _ s
  | .recall _ => exact requestByPhase_mayEnd _ s
  | .action _ _ _ => exact requestByPhase_mayEnd _ s

theorem settleInput_mayEnd (line : Line) (s : State) : AskMayEnd s (settleInput line s) := by
  unfold settleInput
  dsimp only
  split
  · exact .after_eq (by simp) (requestOfKind_mayEnd _ _)
  · split <;> exact .of_eq (by simp)

/-- The responder's answers leave the phase and the asker. -/
theorem answerAll_mayEnd (s : State) : AskMayEnd s (answerAll s) := by
  rw [answerAll_eq]
  generalize groupsOfFour (answerEntries s.zoneStore s.catchUp.answers) = groups
  exact .after_eq (t := offerAnswers groups s) ⟨by rw [offerAnswers_changes], offerAnswers_catchUp groups s⟩ (.of_kept rfl rfl rfl)

/-- A request is refused with the state as it is, or does what its act does (R184). -/
theorem screen_state {α : Type} (which : Screening) (arg : Option α) (act : α → State → Served) (s : State) :
    (screen which arg act s).state = s ∨ ∃ x, (screen which arg act s).state = (act x s).state := by
  unfold screen
  split
  · exact .inl rfl
  · split
    · exact .inl rfl
    · split
      · exact .inl rfl
      · split
        · exact .inl rfl
        · exact .inr ⟨_, rfl⟩

/-- A request served moves the phase no further than its act does. -/
theorem serve_mayEnd {α : Type} {which : Screening} {arg : Option α} {act : α → State → Served} {s t : State}
    (hact : ∀ x, AskMayEnd s (act x s).state) (h : serve which arg act s = .next t) : AskMayEnd s t := by
  have hscreened : AskMayEnd s (screen which arg act s).state := by
    rcases screen_state which arg act s with hrefused | ⟨x, hserved⟩
    · rw [hrefused]; exact .refl s
    · rw [hserved]; exact hact x
  unfold serve at h
  split at h
  · cases h; exact hscreened.trans (.of_eq ⟨rfl, rfl⟩)
  · cases h; exact .refl s
  · cases h; exact .refl s

/-! ## The ends of copies -/

/-- Records that leave unsent may end the ask; a record that leaves otherwise ends nothing (R93, R94). -/
theorem settle_mayEnd (s : State) : AskMayEnd s (settle s) :=
  .after_eq (t := s.setTx { s.tx with records := s.tx.records.filter TxRecord.live }) ⟨rfl, rfl⟩
    (foldl_inv (AskMayEnd _) _ (fun _ (r : TxRecord) h => h.trans (reportLost_mayEnd r.unsentAsk _)) _ _ (.refl _))

theorem failAttempt_mayEnd (L : Lane) (s : State) : AskMayEnd s (failAttempt L s) := by
  unfold failAttempt
  split
  · exact .refl s
  · dsimp only
    split
    · exact .of_eq (by simp)
    · exact .after_eq (by simp) (settle_mayEnd _)

theorem completeCopy_mayEnd (L : Lane) (s : State) : AskMayEnd s (completeCopy L s) := by
  unfold completeCopy
  split
  · exact .refl s
  · dsimp only
    refine AskMayEnd.trans ?_ (settle_mayEnd _)
    split
    · exact .after_eq (by simp) (askSent_mayEnd _)
    · exact .of_eq (by simp)

theorem laneFaultAssert_mayEnd (L : Lane) (s t : State) (h : execLaneFaultAssert L s = .next t) : AskMayEnd s t := by
  unfold execLaneFaultAssert at h
  split at h
  · cases h; exact .refl s
  · cases h
    refine .after_eq ?_ (settle_mayEnd _)
    split <;> simp

/-! ## The commands by which the phase can move -/

/-- The commands that may move the phase otherwise than by the end of an ask (R159; log 20). -/
def movesPhase : Instr → Bool
  | .powerOn | .lossOfSupply | .resetLineAssert | .chipSelectRelease => true
  | .startCounterWriteDone | .frameReceived _ _ | .presenceExpiry | .catchUpWindowExpiry => true
  | _ => false

/-- Any other command moves the phase only by the end of an ask. -/
theorem exec_mayEnd (c : Instr) (s t : State) (hc : movesPhase c = false) (h : exec c s = .next t) : AskMayEnd s t := by
  cases c
  case powerOn | lossOfSupply | resetLineAssert | chipSelectRelease => cases hc
  case startCounterWriteDone | frameReceived | presenceExpiry | catchUpWindowExpiry => cases hc
  case resetLineRelease =>
    simp only [exec, execResetLineRelease] at h
    (repeat' split at h) <;> cases h <;> exact .of_kept rfl rfl rfl
  case loadingReadDone =>
    simp only [exec, execLoadingReadDone] at h
    split at h <;> cases h <;> exact .of_kept rfl rfl rfl
  case contestLost L => cases h; exact failAttempt_mayEnd L s
  case copyEndNothingTakenBack L => cases h; exact failAttempt_mayEnd L s
  case laneFaultAssert L => exact laneFaultAssert_mayEnd L s t h
  case laneFaultClear L => cases h; exact .of_eq ⟨rfl, rfl⟩
  case setupLineChange high => cases h; exact .of_eq ⟨rfl, rfl⟩
  case copyStart L =>
    simp only [exec, execCopyStart] at h
    split at h <;> cases h <;> exact .of_eq ⟨rfl, rfl⟩
  case chipSelectAssert =>
    simp only [exec, execChipSelectAssert] at h
    split at h <;> cases h <;> exact .of_eq ⟨rfl, rfl⟩
  case badRequest code =>
    simp only [exec, execBadRequest] at h
    split at h <;> cases h <;> exact .of_eq ⟨rfl, rfl⟩
  case inputLevelChange line high =>
    simp only [exec, execInputLevelChange] at h
    (repeat' split at h) <;> cases h <;> exact .of_eq ⟨rfl, rfl⟩
  case backoffExpiry =>
    simp only [exec, execBackoffExpiry] at h
    split at h <;> cases h
    · exact .after_time _ (answerAll_mayEnd _)
    · exact .refl s
  case graceExpiry z =>
    simp only [exec, execGraceExpiry] at h
    (repeat' split at h) <;> cases h
    · exact .of_eq (by simp)
    · exact .after_time s.occupancy.records[z].timer.left (.of_eq (by simp [becomeVacant]))
    · exact .refl s
  case vacantExpiry z =>
    simp only [exec, execVacantExpiry] at h
    split at h <;> cases h
    · exact .after_time s.occupancy.records[z].timer.left (.of_eq (by simp [becomeDark]))
    · exact .refl s
  case fadeTick =>
    simp only [exec, execFadeTick] at h
    split at h <;> cases h
    · exact .after_time _ (.of_eq ⟨rfl, rfl⟩)
    · exact .refl s
  case pwmPeriodStart =>
    simp only [exec, execPwmPeriodStart] at h
    split at h <;> cases h
    · exact .after_time _ (.of_eq ⟨rfl, rfl⟩)
    · exact .refl s
  case debounceExpiry line =>
    simp only [exec, execDebounceExpiry] at h
    split at h <;> cases h
    · exact .after_time _ (settleInput_mayEnd _ _)
    · exact .refl s
  case repeatExpiry line =>
    simp only [exec, execRepeatExpiry] at h
    split at h <;> cases h
    · exact .after_time s.inputs.records[line].repeating.left (.after_eq (by simp) (requestOfKind_mayEnd _ _))
    · exact .refl s
  case refreshExpiry line =>
    simp only [exec, execRefreshExpiry] at h
    split at h <;> cases h
    · exact .after_time s.inputs.records[line].refresh.left (.after_eq (by simp) (requestOfKind_mayEnd _ _))
    · exact .refl s
  case configWriteDone =>
    simp only [exec, execConfigWriteDone] at h
    split at h <;> cases h
    · exact .refl s
    · exact .refl s
    · exact .after_time s.store.write.left (.of_eq (by simp))
  case nextEvent =>
    refine serve_mayEnd (fun _ => .of_eq ?_) h
    split <;> exact ⟨rfl, rfl⟩
  case publishSet z r g b level options => exact serve_mayEnd (fun _ => requestByPhase_mayEnd _ s) h
  case publishRecall look options => exact serve_mayEnd (fun _ => requestByPhase_mayEnd _ s) h
  case publishOccupy zones => exact serve_mayEnd (fun _ => requestOccupy_mayEnd _ _ s) h
  all_goals exact serve_mayEnd (fun _ => .of_eq ⟨rfl, rfl⟩) h

/-! ## Resets, LOADING, expiries and frames -/

/-- A reset ends in LOADING; where there is none the phase stays (R162, R163; log 20). -/
theorem resets_phase (c : Instr) (s t : State)
    (hc : c = .powerOn ∨ c = .lossOfSupply ∨ c = .resetLineAssert ∨ c = .chipSelectRelease) (h : exec c s = .next t) :
    t.node.phase = .loading ∨ t.node.phase = s.node.phase := by
  rcases hc with rfl | rfl | rfl | rfl
  · simp only [exec, execPowerOn] at h
    split at h <;> cases h <;> exact .inl rfl
  · cases h; exact .inl rfl
  · simp only [exec, execResetLineAssert] at h
    (repeat' split at h) <;> cases h
    · exact .inr rfl
    · exact .inl rfl
    · exact .inr rfl
  · simp only [exec, execChipSelectRelease] at h
    split at h <;> cases h
    · exact .inl rfl
    all_goals exact .inr rfl

/-- LOADING ends in COMMISSION or LISTEN (R159, R166). -/
theorem endLoading_phase (found : Validation) (s : State) :
    (endLoading found s).node.phase = .commission ∨ (endLoading found s).node.phase = .listen := by
  cases found with
  | invalid d => exact .inl (by simp [endLoading, enterCommission, startPresenceTimer])
  | valid c =>
    unfold endLoading
    dsimp only
    split
    · exact .inl (by simp [enterCommission, startPresenceTimer])
    · exact .inr (by simp [enterListen, startPresenceTimer])

theorem startCounterWriteDone_phase (s t : State) (hs : PhaseSound s) (h : execStartCounterWriteDone s = .next t)
    (hne : t.node.phase ≠ s.node.phase) :
    s.node.phase = .loading ∧ (t.node.phase = .commission ∨ t.node.phase = .listen) := by
  unfold execStartCounterWriteDone at h
  split at h
  · next found _ _ _ hchecked _ =>
    refine ⟨hs.loading.mpr (by simp [hchecked]), ?_⟩
    dsimp only at h
    split at h <;> cases h
    · exact absurd rfl hne
    · exact endLoading_phase found _
  · cases h; exact absurd rfl hne

theorem enterCatchUp_phase (s : State) : (enterCatchUp s).node.phase = .catchUp ∨ (enterCatchUp s).node.phase = .running := by
  by_cases h : askGoesOut s
  · exact .inl (by rw [(enterCatchUp_asked s h).1])
  · exact .inr (by rw [(enterCatchUp_failed s h).1])

/-- The count of expiries moves the phase from LISTEN alone, into CATCH_UP or through it into RUNNING (R103, R159). -/
theorem countListenExpiry_phase (s : State) :
    (countListenExpiry s).node.phase = s.node.phase ∨
    (s.node.phase = .listen ∧
      ((countListenExpiry s).node.phase = .catchUp ∨ (countListenExpiry s).node.phase = .running)) := by
  unfold countListenExpiry
  split
  · next hlisten =>
    dsimp only
    split
    · exact .inr ⟨hlisten, enterCatchUp_phase _⟩
    · exact .inl rfl
  · exact .inl rfl

theorem presenceExpiry_phase (s t : State) (h : execPresenceExpiry s = .next t) (hne : t.node.phase ≠ s.node.phase) :
    s.node.phase = .listen ∧ (t.node.phase = .catchUp ∨ t.node.phase = .running) := by
  unfold execPresenceExpiry at h
  split at h <;> cases h
  · have hcounted := countListenExpiry_phase (createPresence (agePeers (startPresenceTimer (expiryOf s.presence.timer s))))
    have hsame : (createPresence (agePeers (startPresenceTimer (expiryOf s.presence.timer s)))).node = s.node := by simp
    rw [hsame] at hcounted
    exact hcounted.resolve_left hne
  · exact absurd rfl hne

theorem catchUpWindowExpiry_phase (s t : State) (hs : PhaseSound s) (h : execCatchUpWindowExpiry s = .next t)
    (hne : t.node.phase ≠ s.node.phase) : s.node.phase = .catchUp ∧ s.catchUp.asker = .window ∧ t.node.phase = .running := by
  unfold execCatchUpWindowExpiry at h
  split at h <;> cases h
  · next hrun =>
    have hwindow := hs.window.mp hrun
    exact ⟨hs.catchUp_of_asker (.inr hwindow), hwindow, by rw [enterRunning_node]⟩
  · exact absurd rfl hne

/-- A station conflict mutes a node in LISTEN, CATCH_UP or RUNNING, and moves no other phase (R39). -/
theorem stationConflict_phase (own : Station) (s : State) :
    (stationConflict own s).node.phase = s.node.phase ∨
    ((s.node.phase = .listen ∨ s.node.phase = .catchUp ∨ s.node.phase = .running) ∧ (stationConflict own s).node.phase = .mute) := by
  have hmute : (enterMute own s).node.phase = .mute := by simp [enterMute]
  cases hp : s.node.phase <;> simp [stationConflict, hp, hmute]

/-- After the judgement of a conflict a GOOD frame leaves the Node Controller alone. -/
theorem takeGood_phase (L : Lane) (f : Frame) (s : State) :
    (takeGood L f s).node.phase = s.node.phase ∨
    ((s.node.phase = .listen ∨ s.node.phase = .catchUp ∨ s.node.phase = .running) ∧ (takeGood L f s).node.phase = .mute) := by
  have hnode : (bringLaneUp L s).node = s.node := by simp
  have hconflict := stationConflict_phase f.origin (bringLaneUp L s)
  have htaken : (takeGood L f s).node =
      (if s.node.station = some f.origin then stationConflict f.origin (bringLaneUp L s) else bringLaneUp L s).node := by
    unfold takeGood
    dsimp only
    rw [hnode]
    split <;> split <;> simp
  rw [hnode] at hconflict
  rw [htaken]
  split
  · exact hconflict
  · exact .inl (congrArg NodeController.phase hnode)

/-- A frame moves the phase by the end of an ask or by a station conflict (R38, R39, R43). -/
theorem frameReceived_phase (L : Lane) (bytes : List Byte) (s t : State) (h : execFrameReceived L bytes s = .next t)
    (hne : t.node.phase ≠ s.node.phase) :
    AskMayEnd s t ∨
    ((s.node.phase = .listen ∨ s.node.phase = .catchUp ∨ s.node.phase = .running) ∧ t.node.phase = .mute) := by
  have hbad (c : LaneCounter) : AskMayEnd s (takeBad L c s) := .after_eq (by simp) (failAttempt_mayEnd L _)
  unfold execFrameReceived at h
  split at h
  · split at h
    · cases h; exact .inl (hbad _)
    · cases h; exact .inl (hbad _)
    · cases h; exact .inl (hbad _)
    · cases h; exact .inl (hbad _)
    · split at h <;> cases h
      · exact .inl (completeCopy_mayEnd L s)
      · exact .inr ((takeGood_phase L _ s).resolve_left hne)
  · cases h; exact absurd rfl hne

/-- Settles O10: the eight commands that move the phase by lemmas of their own, every other one by `exec_mayEnd`. -/
theorem phasesMoveOnlyAsListed : Obligations.PhasesMoveOnlyAsListed := by
  unfold Obligations.PhasesMoveOnlyAsListed
  intro c s t hs _ h hne
  have hreset (hc : c = .powerOn ∨ c = .lossOfSupply ∨ c = .resetLineAssert ∨ c = .chipSelectRelease) : t.node.phase = .loading :=
    (resets_phase c s t hc h).resolve_right hne
  have hask (hend : AskMayEnd s t) := hend.ended hs hne
  cases c
  case powerOn | lossOfSupply | resetLineAssert | chipSelectRelease => exact .inl ⟨hreset (by simp), by simp⟩
  case startCounterWriteDone =>
    obtain ⟨hloading, hends⟩ := startCounterWriteDone_phase s t hs h hne
    exact .inr (.inl ⟨hloading, rfl, hends⟩)
  case presenceExpiry =>
    obtain ⟨hlisten, henters⟩ := presenceExpiry_phase s t h hne
    exact .inr (.inr (.inl ⟨hlisten, rfl, henters⟩))
  case catchUpWindowExpiry =>
    obtain ⟨hcatchUp, hwindow, hrunning⟩ := catchUpWindowExpiry_phase s t hs h hne
    exact .inr (.inr (.inr (.inl ⟨hcatchUp, hwindow, rfl, hrunning⟩)))
  case frameReceived L bytes =>
    rcases frameReceived_phase L bytes s t h hne with hend | ⟨hfrom, hmute⟩
    · exact .inr (.inr (.inr (.inr (.inl (hask hend)))))
    · exact .inr (.inr (.inr (.inr (.inr ⟨hfrom, hmute, L, bytes, rfl⟩))))
  all_goals exact .inr (.inr (.inr (.inr (.inl (hask (exec_mayEnd _ s t rfl h))))))

end Sys2Proof.Machine
end

section
/-! Wakes and the expiries of the Occupancy Unit: O38 and O39. -/

namespace Sys2Proof.Machine

open Sys2Proof

/-! ## Changes of state and the heads -/

/-- A recomputation after a change of state fades a channel of the zone to its target at the factor of the new state. -/
theorem recomputeHeads_changed_lit (z : Zone) (r : OccupancyRecord) (code : FadeCode) (s : State)
    (h : s.node.phase.headsFollow = true) (ch : Channel) (hl : lights s.heads z ch) :
    (recomputeHeads z code (raise (.occupancyChanged (oneOf z)) (putOccupancy z r s))).heads.channels[ch] =
      startFade (targetOf (componentOf (effective s.zoneStore z).colour ch) (effective s.zoneStore z).level
        (stateFactor s.occupancy.config[z] r.state)) code s.heads.channels[ch] := by
  rw [recomputeHeads_lit z code _ (by simpa using h) ch (by simpa using hl)]
  simp only [raise_frame, putOccupancy, State.setOccupancy_occupancy, State.setOccupancy_zoneStore, State.setOccupancy_heads]
  rw [factorOf_update]

/-- A rise of the factor fades the channels of the zone with the effective fade code (R120). -/
theorem changeOccupancy_rise_lit (z : Zone) (r : OccupancyRecord) (s : State)
    (hr : factorOf s.occupancy z < stateFactor s.occupancy.config[z] r.state) (h : s.node.phase.headsFollow = true)
    (ch : Channel) (hl : lights s.heads z ch) :
    (changeOccupancy z r s).heads.channels[ch] =
      startFade (targetOf (componentOf (effective s.zoneStore z).colour ch) (effective s.zoneStore z).level
        (stateFactor s.occupancy.config[z] r.state)) (effective s.zoneStore z).fade s.heads.channels[ch] := by
  rw [changeOccupancy_rise z r s hr, recomputeHeads_changed_lit z r _ s h ch hl]

/-- A fall of the factor fades the channels of the zone with the vacancy fade code (R120). -/
theorem changeOccupancy_fall_lit (z : Zone) (r : OccupancyRecord) (s : State)
    (hr : stateFactor s.occupancy.config[z] r.state < factorOf s.occupancy z) (h : s.node.phase.headsFollow = true)
    (ch : Channel) (hl : lights s.heads z ch) :
    (changeOccupancy z r s).heads.channels[ch] =
      startFade (targetOf (componentOf (effective s.zoneStore z).colour ch) (effective s.zoneStore z).level
        (stateFactor s.occupancy.config[z] r.state)) s.occupancy.config[z].fade s.heads.channels[ch] := by
  rw [changeOccupancy_fall z r s hr, recomputeHeads_changed_lit z r _ s h ch hl]

/-- A change of a zone's state leaves the channels of the heads that do not follow the zone. -/
theorem changeOccupancy_other (z : Zone) (r : OccupancyRecord) (s : State) (ch : Channel)
    (hz : s.heads.config[headOf ch].zone ≠ some z) : (changeOccupancy z r s).heads.channels[ch] = s.heads.channels[ch] := by
  have hrecompute (code : FadeCode) :
      (recomputeHeads z code (raise (.occupancyChanged (oneOf z)) (putOccupancy z r s))).heads.channels[ch] = s.heads.channels[ch] := by
    rw [recomputeHeads_other z code _ ch (by simpa using hz)]
    simp
  rcases lt_trichotomy (factorOf s.occupancy z) (stateFactor s.occupancy.config[z] r.state) with hlt | heq | hgt
  · rw [changeOccupancy_rise z r s hlt, hrecompute]
  · rw [changeOccupancy_steady z r s heq.symm]
  · rw [changeOccupancy_fall z r s hgt, hrecompute]

/-- A change of a zone's state touches the Occupancy Unit, the heads and the events alone. -/
theorem changeOccupancy_changes (z : Zone) (r : OccupancyRecord) (s : State) :
    changeOccupancy z r s =
      { s with occupancy := (changeOccupancy z r s).occupancy, events := (changeOccupancy z r s).events,
               heads := (changeOccupancy z r s).heads } := by
  apply State.eq_of_fields <;> simp

/-! ## Wakes -/

section
variable (cause : WakeCause) (z : Zone) (s : State)

theorem wake_follow (h : s.occupancy.records[z].state = .follow) : wake cause z s = s := by
  simp only [wake, h]

theorem wake_occupied (h : s.occupancy.records[z].state = .occupied) :
    wake cause z s = putOccupancy z (wokenRecord cause z s) s := by
  simp only [wake, wokenRecord, h]
  rfl

theorem wake_asleep (h : s.occupancy.records[z].state = .vacant ∨ s.occupancy.records[z].state = .dark) :
    wake cause z s = changeOccupancy z (wokenRecord cause z s) s := by
  rcases h with h | h <;> simp only [wake, wokenRecord, h] <;> rfl

/-- A record that is not FOLLOW, as a wake leaves it. -/
theorem wokenRecord_of_ne (h : s.occupancy.records[z].state ≠ .follow) :
    wokenRecord cause z s =
      { state := .occupied, timer := .running (graceTime s.occupancy.config[z].grace), cause := cause,
        overtaken := s.occupancy.records[z].graceDue } := if_neg h

/-- A wake makes a VACANT or DARK record OCCUPIED. -/
theorem wokenRecord_state (h : s.occupancy.records[z].state = .vacant ∨ s.occupancy.records[z].state = .dark) :
    (wokenRecord cause z s).state = .occupied := by
  rw [wokenRecord_of_ne cause z s (by rcases h with h | h <;> rw [h] <;> decide)]

/-- A wake touches the Occupancy Unit, the heads and the events alone: nothing is counted. -/
theorem wake_changes :
    wake cause z s =
      { s with occupancy := (wake cause z s).occupancy, events := (wake cause z s).events, heads := (wake cause z s).heads } := by
  apply State.eq_of_fields <;> simp

/-- A wake leaves the heads where it does not raise the factor. -/
theorem wake_heads_of_no_rise (hp : s.occupancy.config[z].percent ≤ 100)
    (h : ¬ ((s.occupancy.records[z].state = .vacant ∧ s.occupancy.config[z].percent < 100) ∨ s.occupancy.records[z].state = .dark)) :
    (wake cause z s).heads = s.heads := by
  cases hs : s.occupancy.records[z].state with
  | follow => rw [wake_follow cause z s hs]
  | occupied => rw [wake_occupied cause z s hs]; simp
  | vacant =>
    have hfull : s.occupancy.config[z].percent = 100 := by
      by_contra hne
      exact h (.inl ⟨hs, by omega⟩)
    rw [wake_asleep cause z s (.inl hs)]
    apply changeOccupancy_steady
    rw [wokenRecord_state cause z s (.inl hs), factorOf, hs]
    exact hfull.symm
  | dark => exact absurd (.inr hs) h

/-- Where a wake raises the factor, it is a change of state to a record at the full factor. -/
theorem wake_of_rise
    (h : (s.occupancy.records[z].state = .vacant ∧ s.occupancy.config[z].percent < 100) ∨ s.occupancy.records[z].state = .dark) :
    wake cause z s = changeOccupancy z (wokenRecord cause z s) s ∧
    stateFactor s.occupancy.config[z] (wokenRecord cause z s).state = 100 ∧
    factorOf s.occupancy z < 100 := by
  have hasleep : s.occupancy.records[z].state = .vacant ∨ s.occupancy.records[z].state = .dark := h.imp_left And.left
  refine ⟨wake_asleep cause z s hasleep, ?_, ?_⟩
  · rw [wokenRecord_state cause z s hasleep]; rfl
  · rcases h with ⟨hs, hp⟩ | hs <;> rw [factorOf, hs]
    · exact hp
    · exact Nat.zero_lt_succ 99

end

/-- Settles O38: `wake_occupancy`, `wake_asleep` and the changes of state for one zone; `wakeAll_record` and `wakeAll_occupancyChanged` for several. -/
theorem wakesFollowTheTable : Obligations.WakesFollowTheTable := by
  unfold Obligations.WakesFollowTheTable
  refine ⟨fun cause z s hp => ?one, fun cause zones s => ?several, fun cause zones s => ⟨rfl, mem_members zones⟩⟩
  case one =>
    refine ⟨wake_follow cause z s, fun hs => ?record, fun hs => ?quiet, fun hs => ?raised, wake_heads_of_no_rise cause z s hp,
      fun hr hf ch => ?rise, wake_changes cause z s⟩
    case record =>
      rw [wake_overtaken cause z s hs, ← wokenRecord_of_ne cause z s hs]
      exact wake_occupancy cause z s
    case quiet => rw [wake_occupied cause z s hs]; simp
    case raised => rw [wake_asleep cause z s hs, changeOccupancy_events]
    case rise =>
      obtain ⟨hwake, hfull, hbelow⟩ := wake_of_rise cause z s hr
      refine ⟨fun hl => ?_, fun hz => ?_⟩
      · rw [hwake, changeOccupancy_rise_lit z _ s (by rw [hfull]; exact hbelow) hf ch hl, hfull]
      · rw [hwake, changeOccupancy_other z _ s ch hz]
  case several =>
    refine ⟨rfl, fun z => ?_, wakeAll_occupancyChanged cause zones s⟩
    rw [wakeAll_record]
    split <;> rfl

/-! ## Expiries -/

/-- With the factor at 0 every target is 0. -/
@[simp] theorem targetOf_zero (component level : Byte) : targetOf component level 0 = 0 := by
  simp [targetOf]

/-- The expiry of a grace time that stands at 0 is due. -/
theorem OccupancyRecord.graceDue_of_zero {r : OccupancyRecord} (hs : r.state = .occupied) (ht : r.timer = .running 0) :
    r.graceDue = true := by
  simp [graceDue, hs, ht]

section
variable (z : Zone) (s : State)

/-- An expiry that a wake has overtaken changes no more than the model's own flag (R126, log 3). -/
theorem exec_graceExpiry_overtaken (hs : s.occupancy.records[z].state = .occupied) (ht : s.occupancy.records[z].timer ≠ .stopped)
    (ho : s.occupancy.records[z].overtaken = true) :
    exec (.graceExpiry z) s = .next (putOccupancy z { s.occupancy.records[z] with overtaken := false } s) := by
  have hexec : exec (.graceExpiry z) s = execGraceExpiry z s := rfl
  simp only [hexec, execGraceExpiry, hs, Timer.isRunning_of_ne ht, ho, and_self, if_true]

/-- The expiry of a grace time that no wake has overtaken makes the record VACANT, all of the time having passed (R124). -/
theorem exec_graceExpiry_due (hs : s.occupancy.records[z].state = .occupied) (ht : s.occupancy.records[z].timer ≠ .stopped)
    (ho : s.occupancy.records[z].overtaken = false) :
    exec (.graceExpiry z) s = .next (becomeVacant z (passBy s.occupancy.records[z].timer.left s)) := by
  have hexec : exec (.graceExpiry z) s = execGraceExpiry z s := rfl
  simp only [hexec, execGraceExpiry, hs, Timer.isRunning_of_ne ht, ho, and_self, if_true, Bool.false_eq_true, if_false, expiryOf_eq]

/-- The expiry of a vacant time makes the record DARK, all of the time having passed (R125). -/
theorem exec_vacantExpiry_due (hs : s.occupancy.records[z].state = .vacant) (ht : s.occupancy.records[z].timer ≠ .stopped) :
    exec (.vacantExpiry z) s = .next (becomeDark z (passBy s.occupancy.records[z].timer.left s)) := by
  have hexec : exec (.vacantExpiry z) s = execVacantExpiry z s := rfl
  simp only [hexec, execVacantExpiry, hs, Timer.isRunning_of_ne ht, and_self, if_true, expiryOf_eq]

/-- The record of a zone whose grace time has ended (R124). -/
def vacatedRecord (cfg : OccupancyConfig) (r : OccupancyRecord) : OccupancyRecord :=
  { state := .vacant, timer := if cfg.vacant = 0 then .stopped else .running (10 * (120000 * cfg.vacant.val)), cause := r.cause,
    overtaken := false }

/-- The record of a zone whose vacant time has ended (R125). -/
def darkenedRecord (r : OccupancyRecord) : OccupancyRecord := { state := .dark, timer := .stopped, cause := r.cause, overtaken := false }

/-- The passing of time leaves a record's state and cause. -/
theorem passBy_record (n : Nat) :
    (passBy n s).occupancy.records[z] =
      { s.occupancy.records[z] with timer := s.occupancy.records[z].timer.after n,
                                    overtaken := s.occupancy.records[z].overtaken && n == 0 } := by
  rw [passBy_occupancyRecords, mapTable_get]

theorem becomeVacant_passBy (n : Nat) :
    becomeVacant z (passBy n s) =
      changeOccupancy z (vacatedRecord s.occupancy.config[z] s.occupancy.records[z]) (passBy n s) := by
  unfold becomeVacant
  rw [passBy_record]
  rfl

theorem becomeDark_passBy (n : Nat) :
    becomeDark z (passBy n s) = changeOccupancy z (darkenedRecord s.occupancy.records[z]) (passBy n s) := by
  unfold becomeDark
  rw [passBy_record]
  rfl

/-- A fall of the factor once time has passed, in terms of the state before: the channels of the zone fade with the vacancy fade code. -/
theorem changeOccupancy_passBy_fall (n : Nat) (r : OccupancyRecord)
    (hr : stateFactor s.occupancy.config[z] r.state < factorOf s.occupancy z) (h : s.node.phase.headsFollow = true)
    (ch : Channel) (hl : lights s.heads z ch) :
    (changeOccupancy z r (passBy n s)).heads.channels[ch] =
      startFade (targetOf (componentOf (effective s.zoneStore z).colour ch) (effective s.zoneStore z).level
        (stateFactor s.occupancy.config[z] r.state)) s.occupancy.config[z].fade s.heads.channels[ch] :=
  changeOccupancy_fall_lit z r (passBy n s) (by rw [passBy_factor]; exact hr) h ch hl

/-- An equal factor once time has passed leaves the heads. -/
theorem changeOccupancy_passBy_steady (n : Nat) (r : OccupancyRecord)
    (hr : stateFactor s.occupancy.config[z] r.state = factorOf s.occupancy z) :
    (changeOccupancy z r (passBy n s)).heads = (passBy n s).heads :=
  changeOccupancy_steady z r (passBy n s) (by rw [passBy_factor]; exact hr)

/-- The flag of a record as a wake leaves it: set by an expiry that is due, kept by FOLLOW (R126, log 3). -/
theorem wokenRecord_overtaken (cause : WakeCause) :
    (wokenRecord cause z s).overtaken =
      (s.occupancy.records[z].state == .occupied && (s.occupancy.records[z].overtaken || s.occupancy.records[z].timer == .running 0) ||
        s.occupancy.records[z].state == .follow && s.occupancy.records[z].overtaken) := by
  by_cases hs : s.occupancy.records[z].state = .follow
  · rw [wokenRecord, if_pos hs, hs]
    rfl
  · rw [wokenRecord_of_ne cause z s hs, beq_eq_false_iff_ne.mpr hs, Bool.false_and, Bool.or_false]
    rfl

/-- The expiry that a wake overtakes does not happen: the record stays OCCUPIED at its full grace time (R126). -/
theorem exec_graceExpiry_wake_overtaken (cause : WakeCause) (hs : s.occupancy.records[z].state = .occupied)
    (hdue : s.occupancy.records[z].graceDue = true) :
    exec (.graceExpiry z) (wake cause z s) =
      .next (putOccupancy z { state := .occupied, timer := .running (graceTime s.occupancy.config[z].grace), cause := cause,
                              overtaken := false } s) := by
  have hrecord : (wake cause z s).occupancy.records[z] =
      { state := .occupied, timer := .running (graceTime s.occupancy.config[z].grace), cause := cause, overtaken := true } := by
    rw [wake_record, if_pos rfl, wokenRecord_of_ne cause z s (by rw [hs]; decide), hdue]
  rw [exec_graceExpiry_overtaken z _ (by rw [hrecord]) (by rw [hrecord]; nofun) (by rw [hrecord]), hrecord,
    wake_occupied cause z s hs]
  simp [putOccupancy, update]

/-- Where a wake overtakes nothing, the next expiry is a full grace time after it (R126). -/
theorem exec_graceExpiry_wake (cause : WakeCause) (hs : s.occupancy.records[z].state ≠ .follow)
    (hdue : s.occupancy.records[z].graceDue = false) :
    exec (.graceExpiry z) (wake cause z s) =
      .next (becomeVacant z (passBy (graceTime s.occupancy.config[z].grace) (wake cause z s))) := by
  have hrecord : (wake cause z s).occupancy.records[z] =
      { state := .occupied, timer := .running (graceTime s.occupancy.config[z].grace), cause := cause, overtaken := false } := by
    rw [wake_record, if_pos rfl, wokenRecord_of_ne cause z s hs, hdue]
  rw [exec_graceExpiry_due z _ (by rw [hrecord]) (by rw [hrecord]; nofun) (by rw [hrecord]), hrecord]
  rfl

end

/-- Settles O39: the two expiries are changes of state once time has passed (`becomeVacant_passBy`, `becomeDark_passBy`), and the flag of a wake decides between `exec_graceExpiry_wake_overtaken` and `exec_graceExpiry_wake`. -/
theorem occupancyExpiriesDimAndDarken : Obligations.OccupancyExpiriesDimAndDarken := by
  unfold Obligations.OccupancyExpiriesDimAndDarken
  intro z s hp ht cfg r shown u
  refine ⟨rfl, fun hs ho => exec_graceExpiry_overtaken z s hs ht ho, fun hs ho => ?vacant, fun hs => ?dark, fun cause => ?flag,
    fun cause hs hzero => ?overtaken, fun cause hs => ?restarted⟩
  case vacant =>
    have hfactor : factorOf s.occupancy z = 100 := by rw [factorOf, hs]; rfl
    refine ⟨_, exec_graceExpiry_due z s hs ht ho, ?_⟩
    rw [becomeVacant_passBy]
    refine ⟨changeOccupancy_occupancy z _ u, changeOccupancy_events z _ u, fun hfull => ?_, fun hless hf ch hl => ?_,
      changeOccupancy_changes z _ u⟩
    · exact changeOccupancy_passBy_steady z s _ _ (hfull.trans hfactor.symm)
    · exact changeOccupancy_passBy_fall z s _ _ (lt_of_lt_of_eq hless hfactor.symm) hf ch hl
  case dark =>
    have hfactor : factorOf s.occupancy z = cfg.percent := by rw [factorOf, hs]; rfl
    refine ⟨_, exec_vacantExpiry_due z s hs ht, ?_⟩
    rw [becomeDark_passBy]
    refine ⟨changeOccupancy_occupancy z _ u, changeOccupancy_events z _ u, fun hzero => ?_, fun hmore hf ch hl => ?_,
      changeOccupancy_changes z _ u⟩
    · exact changeOccupancy_passBy_steady z s _ _ (hzero.symm.trans hfactor.symm)
    · have hfall := changeOccupancy_passBy_fall z s r.timer.left (darkenedRecord r) (lt_of_lt_of_eq hmore hfactor.symm) hf ch hl
      rw [hfall]
      exact congrArg (fun target => startFade target _ _) (targetOf_zero _ _)
  case flag => rw [wake_record, if_pos rfl, wokenRecord_overtaken]
  case overtaken =>
    exact exec_graceExpiry_wake_overtaken z s cause hs (OccupancyRecord.graceDue_of_zero hs hzero)
  case restarted =>
    have hdue : r.graceDue = false ∧ r.state ≠ .follow := by
      rcases hs with ⟨hs, hnot, ho⟩ | hs
      · simp [OccupancyRecord.graceDue, hs, hnot, ho]
      · simp [OccupancyRecord.graceDue, hs]
    have hrecord : (wake cause z s).occupancy.records[z].cause = cause := by
      rw [wake_record, if_pos rfl, wokenRecord_of_ne cause z s hdue.2]
    refine ⟨_, exec_graceExpiry_wake z s cause hdue.2 hdue.1, ?_⟩
    rw [becomeVacant_passBy, changeOccupancy_occupancy]
    refine ⟨by simp [cfg], ?_, ?_⟩ <;> rw [update_get, if_pos rfl]
    · rfl
    · exact hrecord

end Sys2Proof.Machine
end

section
/-! The entry of LISTEN: O52. -/

namespace Sys2Proof.Machine

open Sys2Proof

/-! ## Lanes and occupancy -/

theorem enterLanes_get (use : PerLane Bool) (s : State) (L : Lane) :
    (enterLanes use s).lanes.get L = laneAtEntry (use.get L) (s.pins.faultLines.get L) (s.lanes.get L) := by
  cases L <;> rfl

/-- The entry of LISTEN makes the records of the enabled zones OCCUPIED, and no other (R121). -/
theorem occupyEnabled_record (s : State) (z : Zone) :
    (occupyEnabled s).occupancy.records[z] =
      if s.occupancy.config[z].enable = true then
        { state := .occupied, timer := .running (graceTime s.occupancy.config[z].grace), cause := .start, overtaken := false }
      else s.occupancy.records[z] := by
  unfold occupyEnabled
  dsimp only
  split <;> exact tabulate_get _ z

@[simp] theorem occupyEnabled_config (s : State) : (occupyEnabled s).occupancy.config = s.occupancy.config := by
  unfold occupyEnabled
  dsimp only
  split <;> rfl

/-- The enabled zones, which the entry of LISTEN makes OCCUPIED. -/
def enabledZones (s : State) : ZoneSet := setOf fun z => s.occupancy.config[z].enable

theorem enabledZones_eq_zero (s : State) (h : ∀ z : Zone, s.occupancy.config[z].enable = false) : enabledZones s = 0 := by
  apply set_ext
  intro z
  rw [enabledZones, setOf_inSet, h z]
  simp [inSet]

/-- Without an enabled zone OCCUPANCY_CHANGED is not raised (log 17). -/
theorem occupyEnabled_events_none (s : State) (h : enabledZones s = 0) : (occupyEnabled s).events = s.events := by
  have hmade : (setOf fun z => s.occupancy.config[z].enable) = 0 := h
  simp only [occupyEnabled, hmade, if_true]
  rfl

/-- With an enabled zone OCCUPANCY_CHANGED is raised for all of them, and no other event (R121). -/
theorem occupyEnabled_events_some (s : State) (h : enabledZones s ≠ 0) :
    (occupyEnabled s).events =
      { s.events with
        records := { s.events.records with occupancyChanged := pendSet s.events.records.occupancyChanged (enabledZones s) } } := by
  have hmade : ¬ (setOf fun z => s.occupancy.config[z].enable) = 0 := h
  simp only [occupyEnabled, hmade, if_false]
  rfl

theorem occupyEnabled_events (s : State) :
    (occupyEnabled s).events =
      { s.events with records := { s.events.records with occupancyChanged := (occupyEnabled s).events.records.occupancyChanged } } := by
  by_cases h : enabledZones s = 0
  · rw [occupyEnabled_events_none s h]
  · rw [occupyEnabled_events_some s h]

theorem occupyEnabled_occupancyChanged (s : State) (z : Zone) :
    inSet ((occupyEnabled s).events.records.occupancyChanged.getD 0) z =
      (inSet (s.events.records.occupancyChanged.getD 0) z || s.occupancy.config[z].enable) := by
  have hmember : inSet (enabledZones s) z = s.occupancy.config[z].enable := setOf_inSet _ z
  rw [← hmember]
  by_cases h : enabledZones s = 0
  · rw [occupyEnabled_events_none s h, h]
    simp [inSet]
  · rw [occupyEnabled_events_some s h, pendSet, Option.getD_some, inSet_or]

/-! ## Inputs -/

theorem senseInputs_record (s : State) (i : Line) :
    (senseInputs s).inputs.records[i] = senseInput s.inputs.config[i] s.pins.inputLines[i] s.inputs.records[i] :=
  tabulate_get _ i

theorem senseInputs_config (s : State) : (senseInputs s).inputs.config = s.inputs.config := rfl

theorem senseInput_unused (cfg : InputConfig) (high : Bool) (r : InputRecord) (h : cfg.kind = .unused) :
    senseInput cfg high r = r := by
  simp only [senseInput, h]

/-- The level that a line shows, by its polarity (R135). -/
theorem sensedActive_eq (cfg : InputConfig) (high : Bool) :
    sensedActive cfg high = if cfg.activeLow then !high else high := by
  cases h : cfg.activeLow <;> cases high <;> simp [sensedActive, h]

/-- A used input takes its sensed level with its timers stopped, but for the refresh timer of a SENSOR found ACTIVE (R135). -/
theorem senseInput_used (cfg : InputConfig) (high : Bool) (r : InputRecord) (h : cfg.kind ≠ .unused) :
    (senseInput cfg high r).active = sensedActive cfg high ∧ (senseInput cfg high r).debounce = .stopped ∧
    (senseInput cfg high r).repeating = .stopped ∧
    (senseInput cfg high r).refresh =
      (match cfg.kind with
        | .sensor _ => if (senseInput cfg high r).active = true then .running 200000 else .stopped
        | _ => .stopped) := by
  cases hk : cfg.kind with
  | unused => exact absurd hk h
  | sensor zone => simp only [senseInput, hk, true_and]; rfl
  | _ => simp only [senseInput, hk, and_self]

/-! ## Heads -/

/-- A channel of a head whose zone a recomputation concerns. -/
theorem recomputeWhere_followed (p : Zone → Bool) (code : FadeCode) (s : State) (h : s.node.phase.headsFollow = true) (z : Zone)
    (hp : p z = true) (ch : Channel) (hz : s.heads.config[headOf ch].zone = some z) :
    (recomputeWhere p code s).heads.channels[ch] =
      recomputeChannel s.heads.config[headOf ch] (effective s.zoneStore z) (factorOf s.occupancy z) code ch s.heads.channels[ch] := by
  rw [recomputeWhere_channel p code s h ch, hz]
  simp only [hp, if_true]

/-- A channel of a head without a zone. -/
theorem recomputeWhere_unfollowed (p : Zone → Bool) (code : FadeCode) (s : State) (h : s.node.phase.headsFollow = true)
    (ch : Channel) (hz : s.heads.config[headOf ch].zone = none) :
    (recomputeWhere p code s).heads.channels[ch] = s.heads.channels[ch] := by
  rw [recomputeWhere_channel p code s h ch, hz]

theorem recomputeChannel_enabled (cfg : HeadConfig) (shown : Shown) (factor : Nat) (code : FadeCode) (ch : Channel) (c : ChannelRecord)
    (h : channelEnabled cfg ch = true) :
    recomputeChannel cfg shown factor code ch c = startFade (targetOf (componentOf shown.colour ch) shown.level factor) code c :=
  if_pos h

theorem recomputeChannel_masked (cfg : HeadConfig) (shown : Shown) (factor : Nat) (code : FadeCode) (ch : Channel) (c : ChannelRecord)
    (h : channelEnabled cfg ch = false) : recomputeChannel cfg shown factor code ch c = maskedChannel := by
  rw [recomputeChannel, h]
  rfl

/-! ## The entry -/

/-- The node in LISTEN with its lanes and the presence timer started, before its zones, inputs and heads start (R169). -/
def listening (use : PerLane Bool) (s : State) : State :=
  startPresenceTimer (enterLanes use (s.setNode { s.node with phase := .listen, listenExpiries := 0 }))

theorem enterListen_eq (use : PerLane Bool) (s : State) :
    enterListen use s = recomputeWhere (fun _ => true) 3 (senseInputs (occupyEnabled (listening use s))) := rfl

section
variable (use : PerLane Bool) (s : State)

/-- What is in place before the zones, inputs and heads start: the blocks they read are those of `s`. -/
theorem listening_changes :
    listening use s =
      { s with node := { s.node with phase := .listen, listenExpiries := 0 },
               presence := { s.presence with timer := .running s.presence.interval },
               lanes := (enterLanes use s).lanes } := rfl

theorem enterListen_node : (enterListen use s).node = { s.node with phase := .listen, listenExpiries := 0 } := by
  simp [enterListen_eq, listening_changes]

theorem enterListen_presence : (enterListen use s).presence = { s.presence with timer := .running s.presence.interval } := by
  simp [enterListen_eq, listening_changes]

theorem enterListen_lanes : (enterListen use s).lanes = (enterLanes use s).lanes := by
  simp [enterListen_eq, listening_changes]

theorem enterListen_occupancy : (enterListen use s).occupancy = (occupyEnabled (listening use s)).occupancy := by
  simp [enterListen_eq]

theorem enterListen_events : (enterListen use s).events = (occupyEnabled (listening use s)).events := by
  simp [enterListen_eq]

/-- The inputs start as those of `s` do, whose lines and configuration they read. -/
theorem enterListen_inputs : (enterListen use s).inputs = (senseInputs s).inputs := by
  simp [enterListen_eq, senseInputs, listening_changes]

/-- The recomputation finds the heads of `s`, and the Occupancy Unit as the entry leaves it. -/
theorem enterListen_followed (z : Zone) (ch : Channel) (hz : s.heads.config[headOf ch].zone = some z) :
    (enterListen use s).heads.channels[ch] =
      recomputeChannel s.heads.config[headOf ch] (effective s.zoneStore z) (factorOf (enterListen use s).occupancy z) 3 ch
        s.heads.channels[ch] := by
  rw [enterListen_occupancy, enterListen_eq,
    recomputeWhere_followed _ 3 _ (by simp [listening_changes, Phase.headsFollow]) z rfl ch (by simpa [listening_changes] using hz)]
  simp [listening_changes]

theorem enterListen_unfollowed (ch : Channel) (hz : s.heads.config[headOf ch].zone = none) :
    (enterListen use s).heads.channels[ch] = s.heads.channels[ch] := by
  rw [enterListen_eq,
    recomputeWhere_unfollowed _ 3 _ (by simp [listening_changes, Phase.headsFollow]) ch (by simpa [listening_changes] using hz)]
  simp [listening_changes]

theorem enterListen_heads : (enterListen use s).heads = { s.heads with channels := (enterListen use s).heads.channels } := by
  rw [enterListen_eq, recomputeWhere_heads]
  simp [listening_changes]

/-- The entry of LISTEN touches seven blocks. -/
theorem enterListen_changes :
    enterListen use s =
      { s with node := (enterListen use s).node, presence := (enterListen use s).presence, lanes := (enterListen use s).lanes,
               occupancy := (enterListen use s).occupancy, inputs := (enterListen use s).inputs, heads := (enterListen use s).heads,
               events := (enterListen use s).events } := by
  apply State.eq_of_fields <;> simp

end

/-- Settles O52: block by block, `enterLanes`, `occupyEnabled` and `senseInputs`, then the recomputation of every head with a zone. -/
theorem listenEntryStartsTheNode : Obligations.ListenEntryStartsTheNode := by
  unfold Obligations.ListenEntryStartsTheNode
  intro use s t
  refine ⟨enterListen_node use s, enterListen_presence use s, fun L => ?lanes, fun z => ?records, fun z => ?changed,
    fun i hu => ?used, fun i hu => ?unused, ?inputConfig, fun z ch hl => ?lit, fun ch hz hm => ?masked,
    enterListen_unfollowed use s, enterListen_heads use s, ?occupancyConfig, ?events, fun hnone => ?quiet,
    enterListen_changes use s, by simp [t], by simp [t], by simp [t], by simp [t], by simp [t], by simp [t], by simp [t]⟩
  case lanes => exact (congrArg (PerLane.get · L) (enterListen_lanes use s)).trans (enterLanes_get use s L)
  case records =>
    exact (congrArg (fun o => o.records[z]) (enterListen_occupancy use s)).trans (occupyEnabled_record (listening use s) z)
  case changed =>
    simp only [t, enterListen_events]
    exact occupyEnabled_occupancyChanged (listening use s) z
  case used =>
    simp only [t, enterListen_inputs, senseInputs_record, ← sensedActive_eq]
    exact senseInput_used _ _ _ hu
  case unused =>
    simp only [t, enterListen_inputs, senseInputs_record]
    exact senseInput_unused _ _ _ hu
  case inputConfig => exact (congrArg InputUnit.config (enterListen_inputs use s)).trans (senseInputs_config s)
  case lit => exact (enterListen_followed use s z ch hl.1).trans (recomputeChannel_enabled _ _ _ _ ch _ hl.2)
  case masked =>
    obtain ⟨z, hz⟩ := Option.ne_none_iff_exists'.mp hz
    exact (enterListen_followed use s z ch hz).trans (recomputeChannel_masked _ _ _ _ ch _ hm)
  case occupancyConfig =>
    exact (congrArg OccupancyUnit.config (enterListen_occupancy use s)).trans (occupyEnabled_config (listening use s))
  case events =>
    simp only [t, enterListen_events]
    exact occupyEnabled_events (listening use s)
  case quiet =>
    exact (enterListen_events use s).trans
      (occupyEnabled_events_none (listening use s) (enabledZones_eq_zero (listening use s) hnone))

end Sys2Proof.Machine
end

section
/-! Input lines: their changes of level, and the expiry of the debounce timer: O41 and O42. -/

namespace Sys2Proof.Machine

open Sys2Proof

/-! ## Changes of level -/

/-- The Input Unit follows the lines in every phase but LOADING and COMMISSION (R135). -/
theorem Phase.inputsFollowed_iff (p : Phase) : p.inputsFollowed = true ↔ p ≠ .loading ∧ p ≠ .commission := by
  cases p <;> decide

theorem InputConfig.used_iff (cfg : InputConfig) : cfg.used = true ↔ cfg.kind ≠ .unused := by
  cases hk : cfg.kind <;> simp [used, hk]

section
variable (line : Line) (high : Bool) (s : State)

/-- The state once the line has taken its new level, before the Input Unit looks at it. -/
def lineMoved : State := s.setPins { s.pins with inputLines := update s.pins.inputLines line high }

section
variable (hedge : s.pins.inputLines[line] ≠ high)
include hedge

/-- A line that is not followed moves, and no more. -/
theorem exec_inputLevelChange_unfollowed
    (h : s.node.phase = .loading ∨ s.node.phase = .commission ∨ s.inputs.config[line].kind = .unused) :
    exec (.inputLevelChange line high) s = .next (lineMoved line high s) := by
  have hoff : ¬ (s.node.phase.inputsFollowed && s.inputs.config[line].used) = true := by
    rw [Bool.and_eq_true, Phase.inputsFollowed_iff, InputConfig.used_iff]
    tauto
  exact (if_neg hedge).trans (if_neg hoff)

/-- A line that is followed has its level compared with the debounced one (R136). -/
theorem exec_inputLevelChange_followed (hl : s.node.phase ≠ .loading) (hc : s.node.phase ≠ .commission)
    (hu : s.inputs.config[line].kind ≠ .unused) :
    exec (.inputLevelChange line high) s =
      if sensedActive s.inputs.config[line] high = s.inputs.records[line].active then
        .next (putInput line { s.inputs.records[line] with debounce := .stopped } (lineMoved line high s))
      else
        .next (putInput line { s.inputs.records[line] with debounce := .running (debounceTime s.inputs.config[line].debounce) }
          (lineMoved line high s)) := by
  have hon : (s.node.phase.inputsFollowed && s.inputs.config[line].used) = true := by
    rw [Bool.and_eq_true, Phase.inputsFollowed_iff, InputConfig.used_iff]
    exact ⟨⟨hl, hc⟩, hu⟩
  exact (if_neg hedge).trans (if_pos hon)

end

end

/-- Settles O41: a line is followed or not (`exec_inputLevelChange_unfollowed`, `exec_inputLevelChange_followed`), and where it is, its sensed level is the debounced one or not. -/
theorem levelChangesAreDebounced : Obligations.LevelChangesAreDebounced := by
  unfold Obligations.LevelChangesAreDebounced
  intro line high s hedge cfg r moved put
  refine ⟨exec_inputLevelChange_unfollowed line high s hedge, fun hl hc hu => ?_⟩
  rw [exec_inputLevelChange_followed line high s hedge hl hc hu, ← sensedActive_eq]
  exact ⟨fun hback => if_pos hback, fun haway => if_neg haway⟩

/-! ## The debounce timer's expiry -/

section
variable (line : Line) (s : State)

/-- DEBOUNCE_EXPIRY of a running timer: its time passes, and the level settles (R136, log 3). -/
theorem exec_debounceExpiry (h : s.inputs.records[line].debounce ≠ .stopped) :
    exec (.debounceExpiry line) s = .next (settleInput line (expiryOf s.inputs.records[line].debounce s)) :=
  if_pos (Timer.isRunning_of_ne h)

/-- A sensed level that is the debounced one already settles without an edge (R136). -/
theorem settleInput_steady (h : sensedActive s.inputs.config[line] s.pins.inputLines[line] = s.inputs.records[line].active) :
    settleInput line s = putInput line { s.inputs.records[line] with debounce := .stopped } s := by
  simp only [settleInput, h, Bool.and_not_self, Bool.false_eq_true, if_false]

/-- A release stops all three timers (R137). -/
theorem settleInput_release (hs : sensedActive s.inputs.config[line] s.pins.inputLines[line] = false)
    (ha : s.inputs.records[line].active = true) :
    settleInput line s =
      putInput line { active := false, debounce := .stopped, repeating := .stopped, refresh := .stopped } s := by
  simp only [settleInput, hs, ha, Bool.false_and, Bool.not_false, Bool.and_self, Bool.false_eq_true, if_false, if_true]

/-- An activation starts the timer of the input's kind and makes its request (R137). -/
theorem settleInput_activation (hs : sensedActive s.inputs.config[line] s.pins.inputLines[line] = true)
    (ha : s.inputs.records[line].active = false) :
    settleInput line s =
      requestOfKind s.inputs.config[line].kind
        (putInput line
          (startInputTimer s.inputs.config[line].kind { s.inputs.records[line] with active := true, debounce := .stopped }) s) := by
  simp only [settleInput, hs, ha, Bool.not_false, Bool.and_self, if_true]

end

/-- OFF and TOGGLE start no timer. -/
theorem startInputTimer_once (kind : ActionKind) (zone : Zone) (step : Nat) (r : InputRecord) (h : kind = .off ∨ kind = .toggle) :
    startInputTimer (.action kind zone step) r = r := by
  rcases h with rfl | rfl <;> rfl

/-- RAISE and LOWER start the repeat timer (R142). -/
theorem startInputTimer_held (kind : ActionKind) (zone : Zone) (step : Nat) (r : InputRecord) (h : kind = .raise ∨ kind = .lower) :
    startInputTimer (.action kind zone step) r = { r with repeating := .running repeatTime } := by
  rcases h with rfl | rfl <;> rfl

/-- Settles O42: the time passes, and the level settles without an edge, as a release, or as an activation of the input's kind. -/
theorem debounceExpirySettlesTheLevel : Obligations.DebounceExpirySettlesTheLevel := by
  unfold Obligations.DebounceExpirySettlesTheLevel
  intro line s hruns u cfg r sensed put
  have hsensed : sensedActive u.inputs.config[line] u.pins.inputLines[line] = sensed := sensedActive_eq _ _
  rw [exec_debounceExpiry line s hruns]
  refine ⟨fun hsame => ?steady, fun hs ha => ?release, fun hs ha => ?activation⟩
  case steady => exact congrArg _ (settleInput_steady line u (hsensed.trans hsame))
  case release => exact congrArg _ (settleInput_release line u (hsensed.trans hs) ha)
  case activation =>
    have hkind : u.inputs.config[line].kind = cfg.kind := rfl
    rw [settleInput_activation line u (hsensed.trans hs) ha, hkind]
    refine ⟨fun hk => ?unused, fun z hk => ?sensor, fun look hk => ?look, fun a z n hk honce => ?once, fun a z n hk hheld => ?held⟩
      <;> rw [hk]
    case unused | sensor | look => rfl
    case once => rw [startInputTimer_once a z n _ honce]; rfl
    case held => rw [startInputTimer_held a z n _ hheld]; rfl

end Sys2Proof.Machine
end

section
/-! Targets, fades, and the outputs in their periods: O44, O45 and O46. -/

namespace Sys2Proof.Machine

open Sys2Proof

/-! ## Targets -/

/-- Colour, level and factor reach the product of their greatest values only where all three are greatest. -/
theorem full_of_product_full (c l : Byte) (f : Nat) (hf : f ≤ 100) (h : 255 * 255 * 100 ≤ c.toNat * l.toNat * f) :
    c.toNat = 255 ∧ l.toNat = 255 ∧ f = 100 := by
  have hc : c.toNat ≤ 255 := by bv_omega
  have hl : l.toNat ≤ 255 := by bv_omega
  have hproduct : 0 < c.toNat * l.toNat * f := by omega
  obtain ⟨hcl, hf0⟩ := CanonicallyOrderedAdd.mul_pos.mp hproduct
  obtain ⟨hc0, hl0⟩ := CanonicallyOrderedAdd.mul_pos.mp hcl
  obtain ⟨hcl', hf'⟩ := eq_and_eq_of_pos_of_le_of_mul_le_mul hcl hf0 (Nat.mul_le_mul hc hl) hf h
  obtain ⟨hc', hl'⟩ := eq_and_eq_of_pos_of_le_of_mul_le_mul hc0 hl0 hc hl hcl'.ge
  exact ⟨hc', hl', hf'⟩

/-- The target is 4095 only at full colour, level and factor (R147). -/
theorem targetOf_eq_full (c l : Byte) (f : Nat) (hf : f ≤ 100) : targetOf c l f = 4095 ↔ c = 255 ∧ l = 255 ∧ f = 100 := by
  constructor
  · intro h
    have hreach : 4095 * (255 * 255 * 100) ≤ c.toNat * l.toNat * f * 4095 := (Nat.le_div_iff_mul_le (by decide)).mp h.ge
    obtain ⟨hc, hl, hfull⟩ := full_of_product_full c l f hf (by omega)
    exact ⟨BitVec.eq_of_toNat_eq hc, BitVec.eq_of_toNat_eq hl, hfull⟩
  · rintro ⟨rfl, rfl, rfl⟩
    decide

theorem targetOf_eq_zero (c l : Byte) (f : Nat) (h : c = 0 ∨ l = 0 ∨ f = 0) : targetOf c l f = 0 := by
  rcases h with rfl | rfl | rfl <;> simp [targetOf]

/-- Settles O44: the two bounds of a floored quotient, `targetOf_le` and the two ends of the range. -/
theorem targetIsTheFlooredQuotient : Obligations.TargetIsTheFlooredQuotient := by
  unfold Obligations.TargetIsTheFlooredQuotient
  refine ⟨fun c l f hf => ⟨?floor, ?next, targetOf_le c l f hf, targetOf_eq_full c l f hf, targetOf_eq_zero c l f⟩,
    by decide, by decide, by decide, by decide, by decide, by decide⟩
  case floor => exact Nat.mul_div_le _ _
  case next => exact Nat.lt_mul_div_succ _ (by decide)

/-! ## Fades -/

theorem fadeStep_ended (c : ChannelRecord) (h : c.remaining = 0) : fadeStep c = c := if_pos h

@[simp] theorem fadeStep_target (c : ChannelRecord) : (fadeStep c).target = c.target := by
  by_cases h : c.remaining = 0
  · rw [fadeStep_ended c h]
  · exact (fadeStep_fields c (by omega)).1

/-- A step adds the difference over the remaining ticks, truncated toward zero (R151). -/
theorem fadeStep_current (c : ChannelRecord) (h : 1 ≤ c.remaining) :
    ((fadeStep c).current : Int) =
      max 0 ((c.current : Int) + ((c.target : Int) - c.current).tdiv c.remaining) := by
  have hfading : ¬ c.remaining = 0 := by omega
  simp only [fadeStep, hfading, if_false]
  rw [Int.ofNat_toNat, max_comm]

/-- The last of the remaining ticks lands on the target (R151). -/
theorem fadeStep_lands (n : Nat) (c : ChannelRecord) (h : c.remaining = n + 1) :
    (fadeStep^[n + 1] c).current = c.target ∧ (fadeStep^[n + 1] c).remaining = 0 := by
  induction n generalizing c with
  | zero =>
    obtain ⟨-, hleft, -, hlast⟩ := fadeStep_fields c (by omega)
    exact ⟨hlast h, by rw [Function.iterate_one, hleft, h]⟩
  | succ n ih =>
    obtain ⟨-, hleft, -, -⟩ := fadeStep_fields c (by omega)
    rw [Function.iterate_succ_apply, ← fadeStep_target c]
    exact ih (fadeStep c) (by omega)

/-- A fading channel stays between where it was and its target, tick by tick. -/
theorem fadeStep_span (k : Nat) (c : ChannelRecord) :
    min c.current c.target ≤ (fadeStep^[k] c).current ∧ (fadeStep^[k] c).current ≤ max c.current c.target := by
  induction k generalizing c with
  | zero => exact ⟨min_le_left _ _, le_max_left _ _⟩
  | succ k ih =>
    obtain ⟨hlow, hhigh⟩ := ih (fadeStep c)
    have hstep := fadeStep_between c
    rw [fadeStep_target] at hlow hhigh
    rw [Function.iterate_succ_apply]
    omega

/-- Settles O46: by induction on the remaining ticks, and on the ticks taken. -/
theorem fadesLandOnTheirTargets : Obligations.FadesLandOnTheirTargets := by
  unfold Obligations.FadesLandOnTheirTargets
  intro c k hfading
  obtain ⟨n, hn⟩ := Nat.exists_eq_add_of_le' hfading
  obtain ⟨hlands, hends⟩ := fadeStep_lands n c hn
  rw [← hn] at hlands hends
  exact ⟨hlands, hends, fadeStep_span k c⟩

/-! ## Ticks and periods -/

/-- FADE_TICK while the fade tick runs: its time passes, and the tick is taken (R151, log 3). -/
theorem exec_fadeTick (s : State) (h : s.heads.fadeTick ≠ .stopped) :
    exec .fadeTick s = .next (takeFadeTick (expiryOf s.heads.fadeTick s)) := if_pos (Timer.isRunning_of_ne h)

/-- PWM_PERIOD_START while the period timing runs: its time passes, and the period starts (R154, log 3). -/
theorem exec_pwmPeriodStart (s : State) (h : s.heads.period ≠ .stopped) :
    exec .pwmPeriodStart s = .next (startPeriod (expiryOf s.heads.period s)) := if_pos (Timer.isRunning_of_ne h)

theorem takeFadeTick_channel (s : State) (ch : Channel) : (takeFadeTick s).heads.channels[ch] = fadeStep s.heads.channels[ch] :=
  mapTable_get fadeStep s.heads.channels ch

theorem startPeriod_output (s : State) (ch : Channel) : (startPeriod s).heads.outputs[ch] = s.heads.channels[ch].buffer :=
  mapTable_get ChannelRecord.buffer s.heads.channels ch

theorem outputHigh_stopped (h : HeadUnit) (ch : Channel) (hp : h.period = .stopped) : outputHigh h ch = false := by
  simp only [outputHigh, hp]

/-- In a running period: at 4095, or while the output's fraction of the period has not passed (R154). -/
theorem outputHigh_running (h : HeadUnit) (ch : Channel) (left : Nat) (hp : h.period = .running left) :
    outputHigh h ch = true ↔
      h.outputs[ch] = 4095 ∨ (periodTime h.rate - left) * 4095 < h.outputs[ch] * periodTime h.rate := by
  simp only [outputHigh, hp, Bool.or_eq_true, beq_iff_eq, decide_eq_true_eq]

/-- Settles O45: `fadeStep` on every channel, the buffer on every output, and an output's level case by case. -/
theorem ticksStepChannelsAndPeriodsShowThem : Obligations.TicksStepChannelsAndPeriodsShowThem := by
  unfold Obligations.TicksStepChannelsAndPeriodsShowThem
  refine ⟨fun s => ⟨fun hruns => ?tick, fun hruns => ?period⟩, fun h ch => ⟨outputHigh_stopped h ch, fun left hp => ?level⟩⟩
  case tick =>
    refine ⟨_, exec_fadeTick s hruns, fun ch => ?_, rfl, rfl⟩
    rw [takeFadeTick_channel]
    refine ⟨fadeStep_ended _, fun hfading => ?_⟩
    obtain ⟨htarget, hleft, hbuffer, -⟩ := fadeStep_fields _ hfading
    exact ⟨fadeStep_current _ hfading, hleft, htarget, hbuffer⟩
  case period => exact ⟨_, exec_pwmPeriodStart s hruns, startPeriod_output _, rfl, rfl⟩
  case level =>
    have hhigh := outputHigh_running h ch left hp
    refine ⟨fun hzero => ?zero, fun hfull => hhigh.mpr (.inl hfull), fun hless => ?fraction⟩
    case zero => rw [← Bool.not_eq_true, hhigh, hzero]; omega
    case fraction => exact hhigh.trans (or_iff_right hless.ne)

end Sys2Proof.Machine
end

section
/-! The start counter's bytes written, and the end of LOADING in COMMISSION or LISTEN: O51. -/

namespace Sys2Proof.Machine

open Sys2Proof

/-! ## The entry of a phase -/

/-- LOADING ends in COMMISSION or in LISTEN (R159). -/
def enterPhase (commission : Bool) (use : PerLane Bool) (s : State) : State :=
  if commission then enterCommission use s else enterListen use s

section
variable (commission : Bool) (use : PerLane Bool) (s : State)

theorem enterCommission_lane (L : Lane) :
    (enterCommission use s).lanes.get L = if use.get L = true then
      { s.lanes.get L with state := if s.pins.faultLines.get L = true then .down else .up } else s.lanes.get L :=
  enterLanes_get use s L

/-- At the entry of COMMISSION every channel fades with code 3 to half duty (R155). -/
theorem enterCommission_channel (ch : Channel) :
    (enterCommission use s).heads.channels[ch] = startFade 2048 3 s.heads.channels[ch] :=
  mapTable_get (startFade 2048 3) s.heads.channels ch

/-- Of the Node Controller an entry writes the phase, and that of LISTEN its count of presence expiries too. -/
theorem enterPhase_node :
    (enterPhase commission use s).node =
      { s.node with phase := if commission then .commission else .listen,
                    listenExpiries := if commission then s.node.listenExpiries else 0 } := by
  cases commission
  case false => exact enterListen_node use s
  case true => rfl

theorem enterPhase_presence :
    (enterPhase commission use s).presence = { s.presence with timer := .running s.presence.interval } := by
  cases commission
  case false => exact enterListen_presence use s
  case true => rfl

theorem enterPhase_zoneStore : (enterPhase commission use s).zoneStore = s.zoneStore := by
  cases commission <;> simp [enterPhase]

theorem enterPhase_occupancyConfig : (enterPhase commission use s).occupancy.config = s.occupancy.config := by
  cases commission
  case false => exact (congrArg OccupancyUnit.config (enterListen_occupancy use s)).trans (occupyEnabled_config (listening use s))
  case true => rfl

theorem enterPhase_inputsConfig : (enterPhase commission use s).inputs.config = s.inputs.config := by
  cases commission
  case false => exact (congrArg InputUnit.config (enterListen_inputs use s)).trans (senseInputs_config s)
  case true => rfl

theorem enterPhase_heads :
    (enterPhase commission use s).heads = { s.heads with channels := (enterPhase commission use s).heads.channels } := by
  cases commission
  case false => exact enterListen_heads use s
  case true => rfl

theorem occupyEnabled_mask : (occupyEnabled s).events.mask = s.events.mask := by rw [occupyEnabled_events]

theorem enterPhase_mask : (enterPhase commission use s).events.mask = s.events.mask := by
  cases commission
  case false =>
    exact (congrArg EventUnit.mask (enterListen_events use s)).trans (occupyEnabled_mask (listening use s))
  case true => rfl

end

/-! ## The end of LOADING -/

/-- A valid configuration is handed over, and the SETUP sample decides the phase (R159, R166). -/
theorem endLoading_valid (c : Configuration) (s : State) :
    endLoading (.valid c) s = enterPhase s.node.setupSample c.laneUse (handConfiguration c s) := rfl

theorem endLoading_valid_commission (c : Configuration) (s : State) (h : s.node.setupSample = true) :
    endLoading (.valid c) s = enterCommission c.laneUse (handConfiguration c s) := by
  rw [endLoading_valid, h]
  rfl

theorem endLoading_valid_listen (c : Configuration) (s : State) (h : s.node.setupSample = false) :
    endLoading (.valid c) s = enterListen c.laneUse (handConfiguration c s) := by
  rw [endLoading_valid, h]
  rfl

/-- The blocks as an invalid configuration leaves them, with CONFIG_INVALID raised (R168). -/
def invalidHanded (d : ConfigDetail) (s : State) : State := raise (.configInvalid d) (handInvalid s)

/-- An invalid configuration ends LOADING in COMMISSION with both lanes enabled (R159, R168). -/
theorem endLoading_invalid (d : ConfigDetail) (s : State) :
    endLoading (.invalid d) s = enterPhase true ⟨true, true⟩ (invalidHanded d s) := rfl

theorem endLoading_node (found : Validation) (s : State) :
    (endLoading found s).node.loading = .ended ∧ (endLoading found s).node.startCounter = s.node.startCounter ∧
      (endLoading found s).node.startTag = s.node.startTag := by
  cases found with
  | valid c => simp only [endLoading_valid, enterPhase_node]; exact ⟨rfl, rfl, rfl⟩
  | invalid d => simp only [endLoading_invalid, enterPhase_node]; exact ⟨rfl, rfl, rfl⟩

/-! ## START_COUNTER_WRITE_DONE -/

/-- The state once the byte at 0x001 has its value (R164). -/
def counterWritten (v : Byte) (s : State) : State :=
  (endOfWrite s).setStore { s.store with array := Memory.write s.store.array 1 v, write := .idle }

/-- The high byte's write ends, and the low byte's begins (R164). -/
theorem exec_startCounterWriteDone_high (found : Validation) (v : Byte) (n : Nat) (s : State) (hf : s.node.loading = .checked found)
    (hw : s.store.write = .writing 0 v n) :
    exec .startCounterWriteDone s = .next ((endOfWrite s).setStore
      { s.store with array := Memory.write s.store.array 0 v, write := .writing 1 (s.node.startCounter.setWidth 8) 40 }) := by
  simp only [exec, execStartCounterWriteDone, hf, hw, if_true, BitVec.setWidth_eq_extractLsb' (show 8 ≤ 16 by decide)]
  rfl

/-- The low byte's write ends, and LOADING with it (R164). -/
theorem exec_startCounterWriteDone_low (found : Validation) (v : Byte) (n : Nat) (s : State) (hf : s.node.loading = .checked found)
    (hw : s.store.write = .writing 1 v n) :
    exec .startCounterWriteDone s = .next (endLoading found (counterWritten v s)) := by
  simp only [exec, execStartCounterWriteDone, hf, hw]
  rfl

/-- Settles O51: the blocks take what is handed to them, and the entry of the phase writes over it. -/
theorem startCounterWritesEndLoading : Obligations.StartCounterWritesEndLoading := by
  unfold Obligations.StartCounterWritesEndLoading
  intro found v n s hf u
  refine ⟨exec_startCounterWriteDone_high found v n s hf, fun hw => ⟨_, exec_startCounterWriteDone_low found v n s hf hw, ?_⟩⟩
  obtain ⟨hended, hcounter, htag⟩ := endLoading_node found (counterWritten v s)
  refine ⟨by simp [counterWritten], hended, hcounter, htag, fun d hd => ?invalid, fun c hc => ?valid,
    by simp [counterWritten], by simp [counterWritten], by simp [counterWritten, u], by simp [counterWritten], by simp [counterWritten]⟩
  case invalid =>
    subst hd
    simp only [endLoading_invalid, enterPhase_node, enterPhase_presence, enterPhase_zoneStore, enterPhase_occupancyConfig,
      enterPhase_inputsConfig, enterPhase_mask]
    refine ⟨rfl, rfl, rfl, rfl, rfl, fun z => ⟨replicate_get _ z, ?disabled⟩, fun i => ?unused, replicate_get _, rfl, rfl, rfl, rfl, rfl,
      fun L => ?lanes, enterCommission_channel _ _, rfl⟩
    case disabled => exact congrArg OccupancyConfig.enable (replicate_get OccupancyConfig.zero z)
    case unused => exact congrArg InputConfig.kind (replicate_get InputConfig.unused i)
    case lanes => exact (enterCommission_lane _ _ L).trans (by cases L <;> rfl)
  case valid =>
    subst hc
    have hheads := enterPhase_heads s.node.setupSample c.laneUse (handConfiguration c (counterWritten v s))
    simp only [endLoading_valid, enterPhase_node, enterPhase_presence, enterPhase_zoneStore, enterPhase_occupancyConfig,
      enterPhase_inputsConfig, enterPhase_mask]
    refine ⟨rfl, rfl, rfl, ?self, rfl, rfl, rfl, rfl, congrArg HeadUnit.config hheads, congrArg HeadUnit.rate hheads,
      congrArg HeadUnit.fadeTick hheads, congrArg HeadUnit.period hheads, fun hsetup => ?commission, fun hsetup => ?listen, rfl⟩
    case self => exact congrArg PeerRecord.state (update_get_same _ c.station _)
    case commission =>
      have hend := endLoading_valid_commission c (counterWritten v s) hsetup
      exact ⟨fun L => (congrArg (fun t => t.lanes.get L) hend).trans (enterCommission_lane _ _ L),
        fun ch => (congrArg (fun t => t.heads.channels[ch]) hend).trans (enterCommission_channel _ _ ch)⟩
    case listen =>
      exact ⟨_, endLoading_valid_listen c (counterWritten v s) hsetup, rfl, rfl, rfl, rfl, rfl⟩

end Sys2Proof.Machine
end

section
/-! The array of the Config Store: every command leaves it, or writes at the byte whose write is under way: O9. -/

namespace Sys2Proof.Machine

open Sys2Proof

/-! ## Writes to the array -/

/-- From `s` to `t` the array stays, or the byte whose write is under way in `s` takes a value. -/
def ArrayKeptOrWritten (s t : State) : Prop :=
  t.store.array = s.store.array ∨
  ∃ a v n b, s.store.write = .writing a v n ∧ t.store.array = Memory.write s.store.array a b

/-- A write cut off is a write of 0xFF at its byte (R191). -/
theorem arrayKeptOrWritten_of_cutOff {s t : State} (h : t.store.array = cutOffWrite s.store) : ArrayKeptOrWritten s t := by
  unfold cutOffWrite at h
  split at h
  · exact .inl h
  · next a v n hw => exact .inr ⟨a, v, n, _, hw, h⟩

/-- The commands by which the array can move: the ends of a byte write, and what cuts one off. -/
def movesArray : Instr → Bool
  | .powerOn | .lossOfSupply | .resetLineAssert | .startCounterWriteDone | .configWriteDone => true
  | _ => false

theorem resetLineAssert_array (s t : State) (h : execResetLineAssert s = .next t) : ArrayKeptOrWritten s t := by
  unfold execResetLineAssert at h
  split at h
  · cases h; exact .inl rfl
  · dsimp only at h
    split at h <;> cases h
    · exact arrayKeptOrWritten_of_cutOff rfl
    · exact .inl rfl

theorem startCounterWriteDone_array (s t : State) (h : execStartCounterWriteDone s = .next t) : ArrayKeptOrWritten s t := by
  unfold execStartCounterWriteDone at h
  split at h
  · next found a v n _ hw =>
    refine .inr ⟨a, v, n, v, hw, ?_⟩
    dsimp only at h
    split at h <;> cases h
    · rfl
    · simp
  · cases h; exact .inl rfl

theorem configWriteDone_array (s t : State) (h : execConfigWriteDone s = .next t) : ArrayKeptOrWritten s t := by
  unfold execConfigWriteDone at h
  split at h
  · cases h; exact .inl rfl
  · cases h; exact .inl rfl
  · next a v n hw _ => cases h; exact .inr ⟨a, v, n, v, hw, rfl⟩

/-! ## Commands that leave the array -/

/-- A command that acts under a condition, and leaves the array where it acts, leaves it. -/
theorem guarded_array {p : Prop} [Decidable p] {s t u : State}
    (h : (if p then .next u else .next s : Host.Outcome State Fault Refusal) = .next t) (hu : u.store.array = s.store.array) :
    t.store.array = s.store.array := by
  split at h <;> cases h
  · exact hu
  · rfl

/-- A request served leaves the array where its act does. -/
theorem serve_array {α : Type} {which : Screening} {arg : Option α} {act : α → State → Served} {s t : State}
    (hact : ∀ x, (act x s).state.store.array = s.store.array) (h : serve which arg act s = .next t) :
    t.store.array = s.store.array := by
  have hscreened : (screen which arg act s).state.store.array = s.store.array := by
    rcases screen_state which arg act s with hrefused | ⟨x, hserved⟩
    · rw [hrefused]
    · rw [hserved]; exact hact x
  unfold serve at h
  split at h <;> cases h
  · exact hscreened
  all_goals rfl

theorem settleInput_store (line : Line) (s : State) : (settleInput line s).store = s.store := by
  unfold settleInput
  dsimp only
  (repeat' split) <;> simp

theorem answerAll_store (s : State) : (answerAll s).store = s.store := by
  rw [answerAll_eq, State.setCatchUp_store, offerAnswers_changes]

theorem frameReceived_store (L : Lane) (bytes : List Byte) (s t : State) (h : execFrameReceived L bytes s = .next t) :
    t.store = s.store := by
  unfold execFrameReceived at h
  (repeat' split at h) <;> cases h <;> simp

theorem laneFaultAssert_store (L : Lane) (s t : State) (h : execLaneFaultAssert L s = .next t) : t.store = s.store := by
  unfold execLaneFaultAssert at h
  split at h <;> cases h
  · rfl
  · simp only [settle_frame]
    split <;> simp

/-- Any command that neither ends a byte write nor cuts one off leaves the array. -/
theorem exec_keeps_array (c : Instr) (s t : State) (hc : movesArray c = false) (h : exec c s = .next t) :
    t.store.array = s.store.array := by
  cases c
  case powerOn | lossOfSupply | resetLineAssert | startCounterWriteDone | configWriteDone => cases hc
  case resetLineRelease =>
    simp only [exec, execResetLineRelease] at h
    (repeat' split at h) <;> cases h <;> rfl
  case chipSelectRelease =>
    simp only [exec, execChipSelectRelease] at h
    split at h <;> cases h <;> rfl
  case chipSelectAssert | loadingReadDone | badRequest => exact guarded_array h rfl
  case setupLineChange | laneFaultClear => cases h; rfl
  case frameReceived L bytes => rw [frameReceived_store L bytes s t h]
  case laneFaultAssert L => rw [laneFaultAssert_store L s t h]
  case contestLost | copyEndNothingTakenBack => cases h; simp
  case copyStart => exact guarded_array h rfl
  case presenceExpiry => exact guarded_array h (by simp)
  case catchUpWindowExpiry => exact guarded_array h (by simp)
  case backoffExpiry => exact guarded_array h (by simp [answerAll_store])
  case graceExpiry =>
    simp only [exec, execGraceExpiry] at h
    (repeat' split at h) <;> cases h <;> simp [becomeVacant]
  case vacantExpiry => exact guarded_array h (by simp [becomeDark])
  case inputLevelChange =>
    simp only [exec, execInputLevelChange] at h
    (repeat' split at h) <;> cases h <;> simp
  case debounceExpiry => exact guarded_array h (by simp [settleInput_store])
  case repeatExpiry => exact guarded_array h (by simp [repeatInput])
  case refreshExpiry => exact guarded_array h (by simp [refreshInput])
  case fadeTick | pwmPeriodStart => exact guarded_array h rfl
  case nextEvent =>
    refine serve_array (fun _ => ?_) h
    split <;> rfl
  case publishSet | publishRecall | publishOccupy => exact serve_array (fun _ => by simp [answered]) h
  all_goals exact serve_array (fun _ => rfl) h

/-- Every command leaves the array, or writes at the byte whose write is under way. -/
theorem exec_array (c : Instr) (s t : State) (h : exec c s = .next t) : ArrayKeptOrWritten s t := by
  cases c
  case powerOn =>
    simp only [exec, execPowerOn] at h
    split at h <;> cases h <;> exact arrayKeptOrWritten_of_cutOff rfl
  case lossOfSupply => cases h; exact arrayKeptOrWritten_of_cutOff rfl
  case resetLineAssert => exact resetLineAssert_array s t h
  case startCounterWriteDone => exact startCounterWriteDone_array s t h
  case configWriteDone => exact configWriteDone_array s t h
  all_goals exact .inl (exec_keeps_array _ s t rfl h)

/-- So does every step: the passing of time leaves the array. -/
theorem step_array (s t : State) (h : step s = .next t) : ArrayKeptOrWritten s t := by
  unfold step at h
  split at h
  · cases h
    unfold passTime
    split <;> exact .inl rfl
  · next c rest _ => exact exec_array c (s.setPending rest) t h

/-- Settles O9: outside COMMISSION a byte write is under way only in LOADING, at the start counter's bytes. -/
theorem storeChangesOnlyInCommission : Obligations.StoreChangesOnlyInCommission := by
  unfold Obligations.StoreChangesOnlyInCommission
  intro s t ⟨hwf, _⟩ _ hwrite hstep hcommission
  rcases step_array s t hstep with hkept | ⟨a, v, n, b, hunder, hwritten⟩
  · exact ⟨fun x _ => by rw [hkept], fun _ => hkept⟩
  · obtain ⟨hloading, -, -, ha⟩ := (hwrite.where_ a v n hunder).resolve_left hcommission
    refine ⟨fun x hx => ?_, fun hne => absurd hloading hne⟩
    rw [hwritten, read_write _ _ _ _ hwf, if_neg (by omega)]

end Sys2Proof.Machine
end

section
/-! Resets: POWER_ON, LOSS_OF_SUPPLY, the RESET line and RESTART: O47, O48 and O49. -/

namespace Sys2Proof.Machine

open Sys2Proof

/-! ## A write cut off -/

/-- The byte at an address once a write under way has been cut off (R191). -/
def byteAfterCutOff (store : ConfigStore) (a : Nat) : Byte :=
  match store.write with
  | .writing b _ _ => if a = b.val then 0xFF#8 else Memory.read store.array a
  | .idle => Memory.read store.array a

theorem read_cutOffWrite (store : ConfigStore) (h : Memory.wf store.array = true) (a : Nat) :
    Memory.read (cutOffWrite store) a = byteAfterCutOff store a := by
  unfold cutOffWrite byteAfterCutOff
  cases store.write with
  | idle => rfl
  | writing b v n => exact read_write store.array b 0xFF#8 a h

/-! ## Supply -/

/-- Every block at its reset values, LOADING not begun: what POWER_ON makes of the node before LOADING, and LOSS_OF_SUPPLY leaves. -/
def heldBySupply (supply : Bool) (s : State) : State :=
  { State.reset with
      pins := { s.pins with supply := supply }, pending := s.pending,
      node := { State.reset.node with loading := .held },
      store := { State.reset.store with array := cutOffWrite s.store } }

theorem exec_powerOn_released (s : State) (h : s.pins.resetLine = false) :
    exec .powerOn s = .next (beginLoading (heldBySupply true s)) := if_neg (by simp [h])

theorem exec_powerOn_asserted (s : State) (h : s.pins.resetLine = true) : exec .powerOn s = .next (heldBySupply true s) := if_pos h

theorem exec_lossOfSupply (s : State) : exec .lossOfSupply s = .next (heldBySupply false s) := rfl

/-- Settles O47: the three resets are `heldBySupply`, after which LOADING begins or does not; the array by `read_cutOffWrite`. -/
theorem supplyResetsTheNode : Obligations.SupplyResetsTheNode := by
  unfold Obligations.SupplyResetsTheNode
  intro s ⟨hwf, _⟩
  have harray := read_cutOffWrite s.store hwf
  exact ⟨fun hreleased => ⟨_, exec_powerOn_released s hreleased, rfl, harray⟩,
    fun hasserted => ⟨_, exec_powerOn_asserted s hasserted, rfl, rfl, rfl, harray⟩,
    ⟨_, exec_lossOfSupply s, rfl, harray⟩⟩

/-! ## The RESET line -/

theorem exec_resetLineAssert (s : State) (hsupply : s.pins.supply = true) (hline : s.pins.resetLine = false) :
    exec .resetLineAssert s = .next
      (resetBlocks .resetLine s.store.isWriting (cutOffWrite s.store) (s.setPins { s.pins with resetLine := true })) := by
  simp [exec, execResetLineAssert, hsupply, hline]

theorem exec_resetLineRelease (s : State) (hsupply : s.pins.supply = true) (hline : s.pins.resetLine = true) :
    exec .resetLineRelease s = .next
      { s with
          pins := { s.pins with resetLine := false },
          node := { s.node with loading := .reading, setupSample := s.pins.setupLine,
                                cause := { s.node.cause with kind := .resetLine } } } := by
  simp only [exec, execResetLineRelease, hsupply, hline]
  rfl

/-- Settles O48: both edges by their equations, the interrupted-write flag by `configBusy_eq`, the array by `read_cutOffWrite`. -/
theorem resetLineHoldsThenLoads : Obligations.ResetLineHoldsThenLoads := by
  unfold Obligations.ResetLineHoldsThenLoads
  intro s hsupply
  have hflag : s.store.isWriting = decide (s.store.write ≠ .idle) := configBusy_eq s
  refine ⟨fun hline ⟨hwf, _⟩ => ⟨_, exec_resetLineAssert s hsupply hline, ?held, read_cutOffWrite s.store hwf⟩,
    exec_resetLineRelease s hsupply⟩
  case held => rw [hflag]; rfl

/-! ## RESTART -/

/-- With the write state IDLE a RESTART is accepted (R163). -/
theorem exec_restart_idle (s : State) (h : Serving s) (hidle : s.store.write = .idle) :
    exec .restart s = .next (s.setPort (.answered [0] true)) := by
  obtain ⟨hport, hphase⟩ := h
  simp only [exec, execRestart]
  rw [serve_opened _ _ _ _ hport, screen_served _ _ _ _ (fun h => absurd h hphase) (fun h => absurd h (by decide))
    (fun _ => (isWriting_idle s.store).mpr hidle)]
  rfl

/-- During a byte write a RESTART is refused with BUSY (R163, R187). -/
theorem exec_restart_busy (s : State) (h : Serving s) (hwriting : s.store.write ≠ .idle) :
    exec .restart s = .next (answeredWith .busy s) := by
  obtain ⟨hport, hphase⟩ := h
  simp only [exec, execRestart]
  rw [serve_opened _ _ _ _ hport, screen_busy _ _ _ _ (fun h => absurd h hphase) (fun h => absurd h (by decide)) rfl
    ((isWriting_writing s.store).mpr hwriting)]
  rfl

/-- An accepted RESTART is taken at its transaction's end (R163). -/
theorem exec_chipSelectRelease_restarting (s : State) (result : List Byte) (h : s.port = .answered result true) :
    exec .chipSelectRelease s = .next (takeRestart s) := by
  simp only [exec, execChipSelectRelease, h]

/-- Settles O49: RESTART by the screening of requests, its reset by the end of the transaction. -/
theorem restartIsTakenAtTheEnd : Obligations.RestartIsTakenAtTheEnd := by
  unfold Obligations.RestartIsTakenAtTheEnd
  exact fun s => ⟨exec_restart_idle s, exec_restart_busy s, exec_chipSelectRelease_restarting s⟩

end Sys2Proof.Machine
end

section
/-! Counting and raising: O58 and O60. -/

namespace Sys2Proof.Machine

open Sys2Proof

/-- Settles O58: the laws of one count. -/
theorem countsSaturateOnce : Obligations.CountsSaturateOnce := by
  unfold Obligations.CountsSaturateOnce
  exact fun i s => ⟨fun j => countAt_live i j s, countAt_capture i s, countAt_saturates i s, countAt_quiet i s, countAt_changes i s⟩

/-! ## The priority of a kind -/

/-- The priority of an event's kind, 0 the highest (R178). -/
def Event.priority : Event → Nat
  | .stationConflict _ => 0
  | .configInvalid _ => 1
  | .laneDown _ => 2
  | .laneUp _ => 3
  | .peerLost _ => 4
  | .peerJoined _ => 5
  | .peerRestart _ => 6
  | .libraryMismatch _ => 7
  | .txDrop _ => 8
  | .catchUpDone _ => 9
  | .zoneChanged _ => 10
  | .occupancyChanged _ => 11
  | .counterSaturated _ => 12
  | .configWriteDone _ => 13

/-- The first byte of NEXT_EVENT is the priority, the others are the detail (R194). -/
theorem eventBytes_eq_cons (e : Event) : eventBytes e = BitVec.ofNat 8 e.priority :: (eventBytes e).tail := by
  cases e <;> rfl

theorem eventBytes_head (e : Event) : (eventBytes e)[0]? = some (BitVec.ofNat 8 e.priority) := by
  rw [eventBytes_eq_cons]
  rfl

theorem eventBytes_tail_length (e : Event) : (eventBytes e).tail.length = 4 := by
  cases e <;> rfl

@[simp] theorem EventRecords.inOrder_length (r : EventRecords) : r.inOrder.length = 14 := rfl

/-- A raise touches the record at its kind's priority alone (R179). -/
theorem EventRecords.inOrder_add_of_ne (r : EventRecords) (e : Event) (j : Nat) (h : j ≠ e.priority) :
    (r.add e).inOrder[j]? = r.inOrder[j]? := by
  have hset : (r.add e).inOrder = r.inOrder.set e.priority ((r.add e).inOrder.getD e.priority none) := by
    cases e <;> rfl
  rw [hset, List.getElem?_set_ne (Ne.symm h)]

/-! ## Merging by the kind's form -/

theorem pendLanes_get (held : Option LaneSet) (raised : LaneSet) (L : Lane) :
    (pendLanes held raised).map (fun l => l.get L) = some ((held.getD ⟨false, false⟩).get L || raised.get L) := by
  cases L <;> rfl

theorem andOne_inSet (held : Option (BitVec 32)) (n m : Fin 32) :
    inSet ((andOne held n).getD 0) m = (inSet (held.getD 0) m || decide (m = n)) := by
  rw [andOne, Option.getD_some, inSet_or, oneOf_inSet]

/-! ## ATTN -/

theorem pendingFlags_eq (r : EventRecords) : pendingFlags r = r.inOrder.map Option.isSome := by
  simp [pendingFlags, EventRecords.inOrder]

/-- ATTN is asserted exactly while a pending kind is enabled (R180). -/
theorem attn_iff (s : State) :
    attn s = true ↔ ∃ k, k < 14 ∧ (∃ e, s.events.records.inOrder[k]? = some (some e)) ∧ s.events.mask.getLsbD k = true := by
  simp only [attn, pendingFlags_eq, List.any_eq_true, Bool.and_eq_true, Prod.exists, List.mk_mem_zipIdx_iff_getElem?, List.getElem?_map,
    Option.map_eq_some_iff]
  constructor
  · rintro ⟨_, k, ⟨_, hk, rfl⟩, ⟨hpending, henabled⟩⟩
    obtain ⟨e, rfl⟩ := Option.isSome_iff_exists.mp hpending
    exact ⟨k, (List.getElem?_eq_some_iff.mp hk).1, ⟨e, hk⟩, henabled⟩
  · rintro ⟨k, -, ⟨e, hk⟩, henabled⟩
    exact ⟨true, k, ⟨some e, hk, rfl⟩, rfl, henabled⟩

/-- Settles O60: each form by its equation, the other records by `inOrder_add_of_ne`, ATTN by `attn_iff`. -/
theorem raisesMergeByForm : Obligations.RaisesMergeByForm := by
  unfold Obligations.RaisesMergeByForm
  refine ⟨fun _ _ => rfl, fun r n d lanes set count how i a => ?_, fun r n m L => ⟨rfl, andOne_inSet _ n m, rfl, rfl⟩, inSet_or,
    fun r e j hj _ => r.inOrder_add_of_ne e j fun h => hj ?_, attn_iff⟩
  · exact ⟨rfl, rfl, rfl, pendLanes_get _ _, rfl, pendLanes_get _ _, rfl, rfl, rfl, rfl, rfl, rfl, rfl, rfl, rfl, rfl⟩
  · rw [eventBytes_head, h]

end Sys2Proof.Machine
end

section
/-! Requests that answer from the Event Unit and the Counter Bank: O56 and O59. -/

namespace Sys2Proof.Machine

open Sys2Proof

/-! ## NEXT_EVENT -/

/-- A pending record stands in the list at its kind's priority (R178). -/
theorem EventRecords.priority_of_inOrder (r : EventRecords) (k : Nat) (e : Event) (h : r.inOrder[k]? = some (some e)) : e.priority = k := by
  have hk : k < 14 := (List.getElem?_eq_some_iff.mp h).1
  interval_cases k <;>
    · obtain ⟨d, -, rfl⟩ := Option.map_eq_some_iff.mp (Option.some.inj h)
      rfl

/-- Clearing a kind clears the record at its priority, and that record alone (R181). -/
theorem EventRecords.inOrder_cleared (r : EventRecords) (e : Event) : (r.cleared e).inOrder = r.inOrder.set e.priority none := by
  cases e <;> rfl

theorem firstEvent_none (r : EventRecords) (h : r.inOrder = List.replicate 14 none) : firstEvent r = none := by
  rw [firstEvent, h]
  rfl

/-- The event returned is the one before which none is pending (R181). -/
theorem firstEvent_at (r : EventRecords) (k : Nat) (e : Event) (h : r.inOrder[k]? = some (some e))
    (hbefore : ∀ j, j < k → r.inOrder[j]? = some none) : firstEvent r = some e := by
  obtain ⟨hk, hget⟩ := List.getElem?_eq_some_iff.mp h
  refine List.findSome?_eq_some_iff.mpr ⟨r.inOrder.take k, some e, r.inOrder.drop (k + 1), ?_, rfl, fun x hx => ?_⟩
  · rw [← hget, List.getElem_cons_drop, List.take_append_drop]
  · obtain ⟨j, hj, rfl⟩ := List.mem_iff_getElem.mp hx
    have hjk : j < k := by simp at hj; omega
    have hnone := hbefore j hjk
    rw [List.getElem_take]
    exact (List.getElem?_eq_some_iff.mp hnone).2

/-- With nothing pending NEXT_EVENT answers NONE (R181). -/
theorem exec_nextEvent_none (s : State) (h : Serving s) (hnone : firstEvent s.events.records = none) :
    exec .nextEvent s = .next (s.setPort (.answered [0, 0xFF, 0, 0, 0, 0] false)) :=
  serve_read _ () _ s s _ h rfl (by rw [hnone]; rfl)

/-- NEXT_EVENT answers with the first pending event and clears its record (R181). -/
theorem exec_nextEvent_some (s : State) (e : Event) (h : Serving s) (hfirst : firstEvent s.events.records = some e) :
    exec .nextEvent s =
      .next ((s.setEvents { s.events with records := s.events.records.cleared e }).setPort (.answered (0 :: eventBytes e) false)) :=
  serve_read _ () _ s _ _ h rfl (by rw [hfirst])

/-! ## Detail bytes (R194) -/

theorem laneSetBytes_eq (l : LaneSet) : laneSetBytes l = [0, 0, 0, BitVec.ofNat 8 (l.a.toNat + 2 * l.b.toNat)] := by
  rw [laneSetBytes, twoFlags, lastByte]

theorem ConfigDetail.code_eq (d : ConfigDetail) : d.code = BitVec.ofNat 8 (1 + [ConfigDetail.node, .library, .field].idxOf d) := by
  cases d <;> rfl

theorem Completion.code_eq (how : Completion) : how.code = BitVec.ofNat 8 (1 + [Completion.complete, .incomplete].idxOf how) := by
  cases how <;> rfl

/-- Settles O56: the detail bytes by the lemma of each form, the request by its equation for the first pending event. -/
theorem nextEventTakesTheHighestPriority : Obligations.NextEventTakesTheHighestPriority := by
  unfold Obligations.NextEventTakesTheHighestPriority
  refine ⟨⟨fun n => rfl, fun d => ?_, fun l => ?_, fun set => ?_, fun n => rfl, fun how => ?_, fun i => rfl, fun a => ?_⟩, fun s h =>
    ⟨fun hclear => exec_nextEvent_none s h (firstEvent_none _ hclear), fun k e _ hk hbefore => ?_⟩⟩
  · rw [eventBytes, ConfigDetail.code_eq]; rfl
  · simp only [eventBytes, laneSetBytes_eq, and_self]
  · simp only [eventBytes, split32_eq_fourBytes, fourBytes, and_self]
  · rw [eventBytes, Completion.code_eq]; rfl
  · rw [eventBytes, word16Of_eq_twoBytes]; rfl
  · have hpriority := s.events.records.priority_of_inOrder k e hk
    have hbytes : eventBytes e = BitVec.ofNat 8 k :: (eventBytes e).tail := by rw [← hpriority]; exact eventBytes_eq_cons e
    refine ⟨_, (eventBytes e).tail, exec_nextEvent_some s e h (firstEvent_at _ k e hk hbefore), eventBytes_tail_length e, ?_, hbytes, rfl,
      ?_, rfl⟩
    · rw [← hbytes]; rfl
    · rw [← hpriority]; exact s.events.records.inOrder_cleared e

/-! ## CAPTURE -/

/-- The Counter Bank after CAPTURE (R175). -/
def capturedBank (bank : CounterBank) : CounterBank := { live := Vector.replicate 28 0, capture := bank.live, latch := false }

/-- Outside LOADING CAPTURE moves the live bank (R175). -/
theorem exec_capture (s : State) (h : Serving s) :
    exec .capture s = .next ((s.setCounters (capturedBank s.counters)).setPort (.answered [0] false)) :=
  serve_read _ () _ s (s.setCounters (capturedBank s.counters)) [] h rfl rfl

theorem capturedBank_live (bank : CounterBank) (i : Fin 28) : (capturedBank bank).live[i] = 0 := replicate_get _ i

/-- A count opens or closes no transaction and moves no phase. -/
theorem Serving.countAt {s : State} (h : Serving s) (i : Fin 28) : Serving (countAt i s) := by
  simpa [Serving] using h

/-- Settles O59: CAPTURE by its equation, a count before or after it by the laws of counting. -/
theorem captureMovesTheLiveBank : Obligations.CaptureMovesTheLiveBank := by
  unfold Obligations.CaptureMovesTheLiveBank
  refine fun s hport => ⟨fun hloading => serve_loading _ _ _ s hport hloading rfl, fun hphase => ?_⟩
  have hserving : Serving s := ⟨hport, hphase⟩
  refine ⟨_, exec_capture s hserving, fun i => ⟨rfl, capturedBank_live _ i⟩, rfl, rfl, rfl, fun i => ⟨?before, ?saturates, ?after⟩⟩
  case before =>
    refine ⟨_, exec_capture _ (hserving.countAt i), ?_, capturedBank_live _ i, rfl, rfl⟩
    exact (countAt_live i i s).trans (if_pos rfl)
  case saturates =>
    intro hlive hlatch
    obtain ⟨hset, hevents⟩ := countAt_saturates i s hlive hlatch
    exact ⟨hset, by rw [hevents]⟩
  case after =>
    generalize ht : (s.setCounters (capturedBank s.counters)).setPort (.answered [0] false) = t
    have hzero : t.counters.live[i] = 0 := by rw [← ht]; exact capturedBank_live _ i
    refine ⟨?_, ?_, ?_⟩
    · rw [countAt_live, if_pos rfl, hzero]; rfl
    · rw [countAt_capture, ← ht]; rfl
    · rw [(countAt_quiet i t (.inl (by rw [hzero]; decide))).2, ← ht]; rfl

end Sys2Proof.Machine
end

section
/-! No operation but a reset and CAPTURE lowers a live counter or moves a capture counter: O8. -/

namespace Sys2Proof.Machine

open Sys2Proof

/-- From `s` to `t` no live counter falls, and the capture bank stays (R174). -/
def OnlyCounts (s t : State) : Prop :=
  (∀ i : Fin 28, s.counters.live[i].toNat ≤ t.counters.live[i].toNat) ∧ t.counters.capture = s.counters.capture

namespace OnlyCounts

theorem of_eq {s t : State} (h : t.counters = s.counters) : OnlyCounts s t := ⟨fun i => by rw [h], by rw [h]⟩

theorem refl (s : State) : OnlyCounts s s := of_eq rfl

theorem trans {s t u : State} (h : OnlyCounts s t) (h' : OnlyCounts t u) : OnlyCounts s u := by
  obtain ⟨hlive, hcapture⟩ := h
  obtain ⟨hlive', hcapture'⟩ := h'
  exact ⟨fun i => (hlive i).trans (hlive' i), hcapture'.trans hcapture⟩

/-- A turn that leaves the Counter Bank may follow. -/
theorem then_eq {s t u : State} (h : OnlyCounts s t) (h' : u.counters = t.counters) : OnlyCounts s u := h.trans (of_eq h')

/-- A turn that leaves the Counter Bank may come first. -/
theorem after_eq {s t u : State} (h : t.counters = s.counters) (h' : OnlyCounts t u) : OnlyCounts s u := (of_eq h).trans h'

theorem foldl {α : Type} (f : State → α → State) (h : ∀ s a, OnlyCounts s (f s a)) (l : List α) (s : State) : OnlyCounts s (l.foldl f s) :=
  foldl_inv (OnlyCounts s) f (fun b a hb => hb.trans (h b a)) l s (refl s)

end OnlyCounts

/-! ## Counts and offers -/

theorem oneMore_ge (v : Word32) : v.toNat ≤ (oneMore v).toNat := by
  have hlt := v.isLt
  rw [oneMore_toNat]
  simp only [maxWord, BitVec.toNat_ofNat]
  omega

theorem countAt_onlyCounts (i : Fin 28) (s : State) : OnlyCounts s (countAt i s) := by
  refine ⟨fun j => ?_, countAt_capture i s⟩
  rw [countAt_live]
  split
  · exact oneMore_ge _
  · exact le_rfl

theorem countLane_onlyCounts (L : Lane) (c : LaneCounter) (s : State) : OnlyCounts s (countLane L c s) := countAt_onlyCounts _ s

theorem countNode_onlyCounts (c : NodeCounter) (s : State) : OnlyCounts s (countNode c s) := countAt_onlyCounts _ s

theorem dropRecord_onlyCounts (s : State) : OnlyCounts s (dropRecord s) := (countNode_onlyCounts .txDrop s).then_eq (by simp)

theorem offerRecord_onlyCounts (p : Payload) (stamp : Word32) (s : State) : OnlyCounts s (offerRecord p stamp s).state := by
  by_cases hp : anyPending p s
  · by_cases hr : s.tx.records.length < 16
    · rw [offerRecord_room p stamp s hp hr]; exact .of_eq rfl
    · by_cases hd : p.urgent = false ∨ displaceNewest s.tx.records = none
      · rw [offerRecord_drops p stamp s hp (by omega) hd]; exact dropRecord_onlyCounts s
      · obtain ⟨hu, hn⟩ := not_or.mp hd
        obtain ⟨⟨gone, left⟩, hgone⟩ := Option.ne_none_iff_exists'.mp hn
        rw [offerRecord_displaces p stamp s hp (by omega) (by simpa using hu) gone left hgone]
        exact .after_eq (t := s.setTx { s.tx with records := left }) rfl ((dropRecord_onlyCounts _).then_eq (by simp))
  · rw [offerRecord_notSent p stamp s hp]
    dsimp only
    split
    · exact countNode_onlyCounts _ s
    · exact .refl s

/-! ## Settings and publications -/

theorem merge_onlyCounts (z : Zone) (x : Setting) (s : State) : OnlyCounts s (merge z x s) := by
  unfold merge
  dsimp only
  split
  · exact .of_eq (by simp)
  · split
    · exact .of_eq (by simp)
    · split
      · exact .of_eq (by simp)
      · exact .after_eq (by simp) (countNode_onlyCounts _ _)

theorem mergeLook_onlyCounts (look : Look) (stamp : Word32) (origin : Station) (s : State) :
    OnlyCounts s (mergeLook look stamp origin s) :=
  OnlyCounts.foldl _ (fun s _ => merge_onlyCounts _ _ s) _ s

theorem performSet_onlyCounts (z : Zone) (c : Colour) (l : Byte) (f : FadeCode) (w : Bool) (cause : WakeCause) (s : State) :
    OnlyCounts s (performSet z c l f w cause s).state := by
  have hstamp : (takeStamp s).2.counters = s.counters := by simp
  unfold performSet
  split
  · next heq => rw [heq] at hstamp; exact .of_eq hstamp
  · next stamp stamped heq =>
    rw [heq] at hstamp
    refine .after_eq hstamp ((merge_onlyCounts z ⟨c, l, f, stamp, ownStation s, .set⟩ stamped).trans (.after_eq ?_ (offerRecord_onlyCounts _ _ _)))
    split <;> simp

theorem performRecall_onlyCounts (k : Look) (w : Bool) (cause : WakeCause) (s : State) :
    OnlyCounts s (performRecall k w cause s).state := by
  have hstamp : (takeStamp s).2.counters = s.counters := by simp
  unfold performRecall
  split
  · exact .refl s
  · split
    · next heq => rw [heq] at hstamp; exact .of_eq hstamp
    · next stamp stamped heq =>
      rw [heq] at hstamp
      refine .after_eq hstamp ((mergeLook_onlyCounts k stamp (ownStation s) stamped).trans (.after_eq ?_ (offerRecord_onlyCounts _ _ _)))
      split <;> simp

theorem performOccupy_onlyCounts (zones : ZoneSet) (cause : WakeCause) (s : State) : OnlyCounts s (performOccupy zones cause s).state :=
  .after_eq (t := wakeSet cause zones s) (by simp) (offerRecord_onlyCounts _ _ _)

theorem performHeld_onlyCounts (h : HeldRequest) (s : State) : OnlyCounts s (performHeld h s).state := by
  match h with
  | .set _ _ _ _ _ _ => exact performSet_onlyCounts _ _ _ _ _ _ s
  | .recall _ _ _ => exact performRecall_onlyCounts _ _ _ s
  | .occupy _ _ => exact performOccupy_onlyCounts _ _ s
  | .action _ _ _ => exact performSet_onlyCounts _ _ _ _ _ _ s

/-! ## Catch-up and requests -/

theorem createPresence_onlyCounts (s : State) : OnlyCounts s (createPresence s) := by
  unfold createPresence
  split
  · exact .refl s
  · split
    · exact .refl s
    · exact offerRecord_onlyCounts _ _ s

theorem releaseHeld_onlyCounts (s : State) : OnlyCounts s (releaseHeld s) :=
  .after_eq (t := s.setCatchUp { s.catchUp with held := [] }) rfl (OnlyCounts.foldl _ (fun s h => performHeld_onlyCounts h s) _ _)

theorem enterRunning_onlyCounts (how : Completion) (s : State) : OnlyCounts s (enterRunning how s) :=
  .trans (.after_eq (by simp) (createPresence_onlyCounts _)) (releaseHeld_onlyCounts _)

theorem offerAsk_onlyCounts (s : State) : OnlyCounts s (offerAsk s).state := offerRecord_onlyCounts _ _ s

theorem askFailed_onlyCounts (s : State) : OnlyCounts s (askFailed s) := by
  unfold askFailed
  split
  · split
    · exact enterRunning_onlyCounts _ s
    · have hoffer : OnlyCounts s (offerAsk (s.setCatchUp { s.catchUp with retry := true })).state :=
        .after_eq (by rfl) (offerAsk_onlyCounts _)
      dsimp only
      split
      · exact hoffer
      · exact hoffer.trans (enterRunning_onlyCounts _ _)
  · exact .refl s

theorem reportLost_onlyCounts (lost : Bool) (s : State) : OnlyCounts s (reportLost lost s) := by
  cases lost
  · exact .refl s
  · exact askFailed_onlyCounts s

theorem enterCatchUp_onlyCounts (s : State) : OnlyCounts s (enterCatchUp s) := by
  unfold enterCatchUp
  dsimp only
  generalize hasking : (s.setNode _).setCatchUp _ = asking
  have hoffer : OnlyCounts s (offerAsk asking).state := .after_eq (by rw [← hasking]; rfl) (offerAsk_onlyCounts asking)
  split
  · exact hoffer
  · exact hoffer.trans (askFailed_onlyCounts _)

theorem answerOf_onlyCounts {s : State} {p : Published} (h : OnlyCounts s p.state) : OnlyCounts s (answerOf p).state :=
  h.trans (reportLost_onlyCounts _ _)

theorem appendHeld_onlyCounts (h : HeldRequest) (s : State) : OnlyCounts s (appendHeld h s).state := by
  unfold appendHeld
  split
  · exact .of_eq rfl
  · exact countNode_onlyCounts _ s

theorem holdRequest_onlyCounts (h : HeldRequest) (s : State) : OnlyCounts s (holdRequest h s).state := by
  cases h with
  | occupy zones cause =>
    rw [holdRequest]
    split
    · exact .of_eq rfl
    · exact appendHeld_onlyCounts _ s
  | _ => exact appendHeld_onlyCounts _ s

theorem requestByPhase_onlyCounts (h : HeldRequest) (s : State) : OnlyCounts s (requestByPhase h s).state := by
  cases hp : s.node.phase with
  | listen => rw [requestByPhase_waiting h s (.inl hp)]; exact holdRequest_onlyCounts h s
  | catchUp => rw [requestByPhase_waiting h s (.inr hp)]; exact holdRequest_onlyCounts h s
  | running => rw [requestByPhase_running h s hp]; exact answerOf_onlyCounts (performHeld_onlyCounts h s)
  | mute => rw [requestByPhase_mute h s hp]; exact .refl s
  | commission => rw [requestByPhase_refused h s (.inl hp)]; exact .refl s
  | loading => rw [requestByPhase_refused h s (.inr hp)]; exact .refl s

theorem requestOccupy_onlyCounts (zones : ZoneSet) (cause : WakeCause) (s : State) : OnlyCounts s (requestOccupy zones cause s).state := by
  have hwaiting : OnlyCounts s (holdRequest (.occupy zones cause) (wakeSet cause zones s)).state :=
    .after_eq (by simp) (holdRequest_onlyCounts _ _)
  unfold requestOccupy
  split
  · exact .refl s
  · exact .refl s
  · exact hwaiting
  · exact hwaiting
  · exact answerOf_onlyCounts (performOccupy_onlyCounts zones cause s)
  · exact .of_eq (by simp)

theorem requestOfKind_onlyCounts (kind : InputKind) (s : State) : OnlyCounts s (requestOfKind kind s) := by
  match kind with
  | .unused => exact .refl s
  | .sensor _ => exact requestOccupy_onlyCounts _ _ s
  | .recall _ => exact requestByPhase_onlyCounts _ s
  | .action _ _ _ => exact requestByPhase_onlyCounts _ s

theorem settleInput_onlyCounts (line : Line) (s : State) : OnlyCounts s (settleInput line s) := by
  unfold settleInput
  dsimp only
  split
  · exact .after_eq (by simp) (requestOfKind_onlyCounts _ _)
  · split <;> exact .of_eq (by simp)

theorem answerAll_onlyCounts (s : State) : OnlyCounts s (answerAll s) := by
  rw [answerAll_eq]
  exact (OnlyCounts.foldl _ (fun s _ => offerRecord_onlyCounts _ _ s) _ s).then_eq rfl

/-! ## The ends of copies -/

theorem settle_onlyCounts (s : State) : OnlyCounts s (settle s) :=
  .after_eq (t := s.setTx { s.tx with records := s.tx.records.filter TxRecord.live }) rfl
    (OnlyCounts.foldl _ (fun s (r : TxRecord) => reportLost_onlyCounts r.unsentAsk s) _ _)

theorem takeLaneDown_onlyCounts (L : Lane) (s : State) : OnlyCounts s (takeLaneDown L s) := by
  have hdown : (raise (.laneDown (oneLane L)) (putLane L { state := .down, abandons := 0 } s)).counters = s.counters := by simp
  exact (OnlyCounts.after_eq hdown (OnlyCounts.foldl _ (fun s _ => countLane_onlyCounts L .txAbandoned s) _ _)).then_eq rfl

theorem countAbandon_onlyCounts (L : Lane) (s : State) : OnlyCounts s (countAbandon L s) := by
  unfold countAbandon
  dsimp only
  split
  · split
    · exact takeLaneDown_onlyCounts L s
    · exact .of_eq (by simp)
  · exact .refl s

theorem failAttempt_onlyCounts (L : Lane) (s : State) : OnlyCounts s (failAttempt L s) := by
  unfold failAttempt
  split
  · exact .refl s
  · have htried := countLane_onlyCounts L .txContention s
    dsimp only
    split
    · exact htried.then_eq (by simp)
    · refine .trans ?_ (settle_onlyCounts _)
      refine .trans ?_ (countAbandon_onlyCounts L _)
      exact (htried.trans (countLane_onlyCounts L .txAbandoned _)).then_eq (by simp)

theorem completeCopy_onlyCounts (L : Lane) (s : State) : OnlyCounts s (completeCopy L s) := by
  unfold completeCopy
  split
  · exact .refl s
  · have hsent : OnlyCounts s (countLane L .txSent (changeInFlight L (fun r => r.setCopy L .sent) (bringLaneUp L s))) :=
      .after_eq (by simp) (countLane_onlyCounts L .txSent _)
    refine .trans (hsent.then_eq ?_) (settle_onlyCounts _)
    split <;> simp

theorem abandonInFlight_onlyCounts (L : Lane) (s : State) : OnlyCounts s (abandonInFlight L s) := by
  unfold abandonInFlight
  split
  · exact .refl s
  · exact .after_eq (by simp) (countLane_onlyCounts L .txAbandoned _)

/-! ## Frames received -/

theorem acceptSet_onlyCounts (f : Frame) (z : Zone) (c : Colour) (l : Byte) (x : FadeCode) (w : Bool) (s : State) :
    OnlyCounts s (acceptSet f z c l x w s) := by
  refine (merge_onlyCounts z ⟨c, l, x, f.stamp, f.origin, .set⟩ s).then_eq ?_
  cases w <;> simp [acceptSet]

theorem acceptRecall_onlyCounts (f : Frame) (k : Look) (c : Word16) (w : Bool) (s : State) : OnlyCounts s (acceptRecall f k c w s) := by
  unfold acceptRecall
  split
  · refine (mergeLook_onlyCounts k f.stamp f.origin s).then_eq ?_
    cases w <;> simp
  · exact countNode_onlyCounts _ s

theorem acceptEntries_onlyCounts (entries : List SyncEntry) (s : State) : OnlyCounts s (acceptEntries entries s) :=
  (OnlyCounts.foldl (fun s (e : SyncEntry) => merge e.zone e.setting s) (fun s _ => merge_onlyCounts _ _ s) entries s).then_eq
    (by simp [acceptEntries])

theorem handleFrame_onlyCounts (f : Frame) (s : State) : OnlyCounts s (handleFrame f s) := by
  unfold handleFrame
  split
  · exact .of_eq (by simp)
  · exact acceptSet_onlyCounts f _ _ _ _ _ s
  · exact acceptRecall_onlyCounts f _ _ _ s
  · exact .of_eq (by simp)
  · exact .of_eq (by simp)
  · exact acceptEntries_onlyCounts _ s

theorem acceptFrame_onlyCounts (f : Frame) (s : State) : OnlyCounts s (acceptFrame f s) :=
  .after_eq (by simp) (handleFrame_onlyCounts f _)

theorem filterFrame_onlyCounts (L : Lane) (f : Frame) (s : State) : OnlyCounts s (filterFrame L f s) := by
  unfold filterFrame
  dsimp only
  generalize hnoted : s.setFilter _ = noted
  have hkept : noted.counters = s.counters := by rw [← hnoted]; rfl
  have hrestart : OnlyCounts noted (raise (.peerRestart (oneOf f.origin)) (countNode .peerRestart noted)) :=
    (countNode_onlyCounts .peerRestart noted).then_eq (by simp)
  split
  · exact .after_eq hkept (acceptFrame_onlyCounts f noted)
  · exact .after_eq hkept (hrestart.trans (acceptFrame_onlyCounts f _))
  · exact .after_eq hkept (countLane_onlyCounts L .rxDuplicate noted)
  · exact .after_eq hkept (countLane_onlyCounts L .rxStale noted)

theorem takeGood_onlyCounts (L : Lane) (f : Frame) (s : State) : OnlyCounts s (takeGood L f s) := by
  have hreported : OnlyCounts s
      (if (bringLaneUp L s).node.station = some f.origin then stationConflict f.origin (bringLaneUp L s) else bringLaneUp L s) :=
    .of_eq (by split <;> simp)
  have hcrossed (t : State) : OnlyCounts t (if isCrossed L f then countLane L .rxCrossed t else t) := by
    split
    · exact countLane_onlyCounts L _ t
    · exact .refl t
  have hheard (t : State) : OnlyCounts t (hearPeer L f.origin (isCrossed L f) t) := .of_eq (by simp)
  have hcounted := hreported.trans (countLane_onlyCounts L .rxGood _)
  exact ((hcounted.trans (hcrossed _)).trans (hheard _)).trans (filterFrame_onlyCounts L f _)

theorem frameReceived_onlyCounts (L : Lane) (bytes : List Byte) (s t : State) (h : execFrameReceived L bytes s = .next t) :
    OnlyCounts s t := by
  have hbad (c : LaneCounter) : OnlyCounts s (takeBad L c s) := (countLane_onlyCounts L c s).trans (failAttempt_onlyCounts L _)
  unfold execFrameReceived at h
  split at h
  · split at h
    · cases h; exact hbad _
    · cases h; exact hbad _
    · cases h; exact hbad _
    · cases h; exact hbad _
    · split at h <;> cases h
      · exact completeCopy_onlyCounts L s
      · exact takeGood_onlyCounts L _ s
  · cases h; exact .refl s

/-! ## Commands -/

/-- A command that acts under a condition only counts where it acts so. -/
theorem guarded_onlyCounts {p : Prop} [Decidable p] {s t u : State}
    (h : (if p then .next u else .next s : Host.Outcome State Fault Refusal) = .next t) (hu : OnlyCounts s u) : OnlyCounts s t := by
  split at h <;> cases h
  · exact hu
  · exact .refl s

/-- A request served only counts where its act does. -/
theorem serve_onlyCounts {α : Type} {which : Screening} {arg : Option α} {act : α → State → Served} {s t : State}
    (hact : ∀ x, OnlyCounts s (act x s).state) (h : serve which arg act s = .next t) : OnlyCounts s t := by
  have hscreened : OnlyCounts s (screen which arg act s).state := by
    rcases screen_state which arg act s with hrefused | ⟨x, hserved⟩
    · rw [hrefused]; exact .refl s
    · rw [hserved]; exact hact x
  unfold serve at h
  split at h <;> cases h
  · exact hscreened.then_eq rfl
  all_goals exact .refl s

theorem countListenExpiry_onlyCounts (s : State) : OnlyCounts s (countListenExpiry s) := by
  unfold countListenExpiry
  dsimp only
  split
  · split
    · exact .after_eq (by rfl) (enterCatchUp_onlyCounts _)
    · exact .of_eq rfl
  · exact .refl s

theorem laneFaultAssert_onlyCounts (L : Lane) (s t : State) (h : execLaneFaultAssert L s = .next t) : OnlyCounts s t := by
  unfold execLaneFaultAssert at h
  split at h <;> cases h
  · exact .refl s
  · refine OnlyCounts.trans ?_ (settle_onlyCounts _)
    have hrisen : OnlyCounts s (abandonInFlight L (setFaultLine L true s)) := .after_eq (by simp) (abandonInFlight_onlyCounts L _)
    split
    · exact hrisen.trans (takeLaneDown_onlyCounts L _)
    · exact hrisen

theorem startCounterWriteDone_counters (s t : State) (h : execStartCounterWriteDone s = .next t) : t.counters = s.counters := by
  unfold execStartCounterWriteDone at h
  split at h
  · dsimp only at h
    split at h <;> cases h <;> simp
  · cases h; rfl

/-- A command that resets the node leaves it in LOADING, or is none of its edges and leaves the Counter Bank. -/
theorem resets_counters (c : Instr) (s t : State)
    (hc : c = .powerOn ∨ c = .lossOfSupply ∨ c = .resetLineAssert ∨ c = .chipSelectRelease)
    (h : exec c s = .next t) : t.node.phase = .loading ∨ t.counters = s.counters := by
  rcases hc with rfl | rfl | rfl | rfl
  · simp only [exec, execPowerOn] at h
    split at h <;> cases h <;> exact .inl rfl
  · cases h; exact .inl rfl
  · simp only [exec, execResetLineAssert] at h
    (repeat' split at h) <;> cases h
    · exact .inr rfl
    · exact .inl rfl
    · exact .inr rfl
  · simp only [exec, execChipSelectRelease] at h
    split at h <;> cases h
    · exact .inl rfl
    all_goals exact .inr rfl

/-- Every command but CAPTURE and one that ends in LOADING only counts. -/
theorem exec_onlyCounts (c : Instr) (s t : State) (h : exec c s = .next t) (hp : t.node.phase ≠ .loading) (hc : c ≠ .capture) :
    OnlyCounts s t := by
  cases c
  case capture => exact absurd rfl hc
  case powerOn | lossOfSupply | resetLineAssert | chipSelectRelease =>
    exact .of_eq ((resets_counters _ s t (by simp) h).resolve_left hp)
  case resetLineRelease =>
    simp only [exec, execResetLineRelease] at h
    (repeat' split at h) <;> cases h <;> exact .of_eq rfl
  case startCounterWriteDone => exact .of_eq (startCounterWriteDone_counters s t h)
  case frameReceived L bytes => exact frameReceived_onlyCounts L bytes s t h
  case contestLost L => cases h; exact failAttempt_onlyCounts L s
  case copyEndNothingTakenBack L => cases h; exact failAttempt_onlyCounts L s
  case laneFaultAssert L => exact laneFaultAssert_onlyCounts L s t h
  case laneFaultClear | setupLineChange => cases h; exact .of_eq rfl
  case loadingReadDone | copyStart | chipSelectAssert | badRequest => exact guarded_onlyCounts h (.of_eq rfl)
  case presenceExpiry =>
    exact guarded_onlyCounts h ((OnlyCounts.after_eq (by simp) (createPresence_onlyCounts _)).trans (countListenExpiry_onlyCounts _))
  case catchUpWindowExpiry => exact guarded_onlyCounts h (.after_eq (by simp) (enterRunning_onlyCounts _ _))
  case backoffExpiry => exact guarded_onlyCounts h (.after_eq (by simp) (answerAll_onlyCounts _))
  case graceExpiry z =>
    simp only [exec, execGraceExpiry] at h
    (repeat' split at h) <;> cases h <;> exact .of_eq (by simp [becomeVacant])
  case vacantExpiry => exact guarded_onlyCounts h (.of_eq (by simp [becomeDark]))
  case inputLevelChange line high =>
    simp only [exec, execInputLevelChange] at h
    (repeat' split at h) <;> cases h <;> exact .of_eq rfl
  case debounceExpiry => exact guarded_onlyCounts h (.after_eq (by simp) (settleInput_onlyCounts _ _))
  case repeatExpiry => exact guarded_onlyCounts h (.after_eq (by simp) (requestOfKind_onlyCounts _ _))
  case refreshExpiry => exact guarded_onlyCounts h (.after_eq (by simp) (requestOfKind_onlyCounts _ _))
  case fadeTick | pwmPeriodStart => exact guarded_onlyCounts h (.of_eq rfl)
  case configWriteDone =>
    simp only [exec, execConfigWriteDone] at h
    split at h <;> cases h <;> exact .of_eq (by simp)
  case nextEvent =>
    refine serve_onlyCounts (fun _ => .of_eq ?_) h
    split <;> rfl
  case publishSet => exact serve_onlyCounts (fun _ => requestByPhase_onlyCounts _ s) h
  case publishRecall => exact serve_onlyCounts (fun _ => requestByPhase_onlyCounts _ s) h
  case publishOccupy => exact serve_onlyCounts (fun _ => requestOccupy_onlyCounts _ _ s) h
  all_goals exact serve_onlyCounts (fun _ => .of_eq rfl) h

/-- Settles O8: `exec_onlyCounts` is its words with `OnlyCounts` written out. -/
theorem countersOnlyRise : Obligations.CountersOnlyRise := exec_onlyCounts

end Sys2Proof.Machine
end

section
/-! The requests of the port as their bytes spell them and as R184's tests screen them, and the requests of the Config Store: O54 and O57. -/

namespace Sys2Proof.Machine

open Sys2Proof

/-! ## Requests as bytes -/

/-- Bytes that begin with a request's bytes spell it (R185). -/
theorem readRequest_of_requestBytes (c : Instr) {code : Byte} {args : List Byte} (h : requestBytes c = code :: args)
    (hw : c.wellFormed = true) (more : List Byte) : readRequest (code :: (args ++ more)) = some c := by
  rw [← List.cons_append, ← h]
  exact readRequest_requestBytes c more (by simp [h]) hw

/-! ## Screening -/

section
variable {α : Type} {which : Screening} {arg : Option α} {act : α → State → Served} {s : State}

/-- CONFIG_WRITE is refused by every phase but COMMISSION (R184, test 3). -/
theorem serve_notCommission (hport : s.port = .opened) (hphase : s.node.phase ≠ .commission) (hwrite : which.isWrite = true) :
    serve which arg act s = .next (answeredWith .refusedPhase s) := by
  rw [serve_opened _ _ _ _ hport, screen_write _ _ _ _ hphase hwrite]
  rfl

section
variable (hserving : Serving s) (hwrite : which.isWrite = true → s.node.phase = .commission)
include hserving hwrite

/-- An argument out of range is refused where the phase does not refuse first (R184, test 4). -/
theorem serve_badArgument (harg : arg = none) : serve which arg act s = .next (answeredWith .badArgument s) := by
  obtain ⟨hport, hphase⟩ := hserving
  rw [serve_opened _ _ _ _ hport, harg, screen_badArgument _ _ _ (fun h => absurd h hphase) hwrite]
  rfl

/-- A request that needs the store is refused while a byte write is under way, its arguments being in range (R184, test 5). -/
theorem serve_busy {x : α} (harg : arg = some x) (hneeds : which.needsIdle = true) (hwriting : s.store.write ≠ .idle) :
    serve which arg act s = .next (answeredWith .busy s) := by
  obtain ⟨hport, hphase⟩ := hserving
  rw [serve_opened _ _ _ _ hport, harg, screen_busy _ _ _ _ (fun h => absurd h hphase) hwrite hneeds
    ((isWriting_writing s.store).mpr hwriting)]
  rfl

/-- A request that passes every test, the write state being IDLE, does what its act does. -/
theorem serve_idle {x : α} (harg : arg = some x) (hidle : s.store.write = .idle) :
    serve which arg act s = .next ((act x s).state.setPort (.answered (act x s).result (act x s).restarting)) := by
  obtain ⟨hport, hphase⟩ := hserving
  rw [serve_opened _ _ _ _ hport, harg, screen_served _ _ _ _ (fun h => absurd h hphase) hwrite
    (fun _ => (isWriting_idle s.store).mpr hidle)]

end

end

/-- An undefined code is answered at once, in every phase (R184, test 1). -/
theorem exec_badRequest_undefined (code : Byte) (s : State) (hport : s.port = .opened) (h : code ∉ requestCodes) :
    exec (.badRequest code) s = .next (answeredWith .badRequest s) :=
  if_pos ⟨hport, by simpa using h⟩

/-! ## Arguments out of range -/

theorem setArgs_outOfRange (z r g b level options : Byte) (h : 31 < z.toNat ∨ options &&& 0xE0#8 ≠ 0) :
    setArgs z r g b level options = none := by
  rcases h with hz | ho
  · simp [setArgs, below_none 32 z hz]
  · simpa [setArgs] using fun _ _ _ _ => ho

theorem recallArgs_outOfRange (look options : Byte) (h : 15 < look.toNat ∨ options &&& 0xFE#8 ≠ 0) : recallArgs look options = none := by
  rcases h with hl | ho
  · simp [recallArgs, below_none 16 look hl]
  · simpa [recallArgs] using fun _ _ => ho

theorem counterArgs_outOfRange (first count : Byte) (h : count = 0 ∨ 28 < first.toNat + count.toNat) : counterArgs first count = none :=
  if_pos (h.imp_left (congrArg BitVec.toNat))

theorem readArg_outOfRange (pointer : Nat) (count : Byte) (h : count = 0 ∨ 2048 < pointer + count.toNat) : readArg pointer count = none :=
  if_pos (h.imp_left (congrArg BitVec.toNat))

theorem readArg_inRange (pointer : Nat) (count : Byte) (hc : count ≠ 0) (h : pointer + count.toNat ≤ 2048) :
    readArg pointer count = some count.toNat :=
  if_neg (not_or.mpr ⟨BitVec.toNat_ne_iff_ne.mpr hc, Nat.not_lt.mpr h⟩)

theorem pointArg_inRange (a : Word16) (h : a.toNat ≤ 2047) : pointArg a = some a.toNat := if_neg (Nat.not_lt.mpr h)

theorem writeArg_inRange (a : Fin 2048) {pointer : Nat} (h : pointer = a.val) : writeArg pointer = some a := by
  subst h
  exact dif_pos a.isLt

/-- Settles O54: the bytes by `readRequest_of_requestBytes`, each test by the lemma of what it refuses. -/
theorem requestsAreScreenedInOrder : Obligations.RequestsAreScreenedInOrder := by
  unfold Obligations.RequestsAreScreenedInOrder
  refine ⟨fun more a b d e f g => ?bytes, fun s hport => ⟨fun code => exec_badRequest_undefined code s hport, fun hphase c hc => ?loading,
    fun hphase v => serve_notCommission hport hphase rfl, fun hphase => ?served⟩⟩
  case bytes =>
    exact ⟨readRequest_of_requestBytes .status rfl rfl more, readRequest_of_requestBytes .nextEvent rfl rfl more,
      readRequest_of_requestBytes (.publishSet a b d e f g) rfl rfl more, readRequest_of_requestBytes (.publishRecall a b) rfl rfl more,
      readRequest_of_requestBytes (.publishOccupy (join32 a b d e)) (congrArg _ (split32_join32 a b d e)) rfl more,
      readRequest_of_requestBytes (.readZone a) rfl rfl more, readRequest_of_requestBytes (.readPeer a) rfl rfl more,
      readRequest_of_requestBytes (.readHead a) rfl rfl more, readRequest_of_requestBytes .capture rfl rfl more,
      readRequest_of_requestBytes (.readCounter a b) rfl rfl more,
      readRequest_of_requestBytes (.configPoint (join16 a b)) (congrArg _ (split16_join16 a b)) rfl more,
      readRequest_of_requestBytes (.configRead a) rfl rfl more, readRequest_of_requestBytes (.configWrite a) rfl rfl more,
      readRequest_of_requestBytes .restart rfl rfl more, readRequest_bad a more,
      fun c hc => (readRequest_spells more c hc).imp_left List.isPrefixOf_iff_prefix.mpr⟩
  case loading =>
    simp only [List.mem_cons, List.not_mem_nil, or_false] at hc
    obtain (rfl | rfl | rfl) | ⟨a, rfl | rfl | rfl | rfl | rfl⟩ | ⟨a, rfl⟩ | ⟨a, b, rfl | rfl⟩ | ⟨z, rfl⟩ | ⟨a, b, d, e, f, g, rfl⟩ := hc
    all_goals exact serve_loading _ _ _ s hport hphase rfl
  case served =>
    have hserving : Serving s := ⟨hport, hphase⟩
    refine ⟨fun z r g b level options h => serve_badArgument hserving nofun (setArgs_outOfRange z r g b level options h),
      fun look options h => serve_badArgument hserving nofun (recallArgs_outOfRange look options h),
      serve_badArgument hserving nofun rfl,
      fun z h => serve_badArgument hserving nofun (below_none 32 z h), fun n h => serve_badArgument hserving nofun (below_none 32 n h),
      fun hd h => serve_badArgument hserving nofun (below_none 4 hd h),
      fun first count h => serve_badArgument hserving nofun (counterArgs_outOfRange first count h),
      fun a h => serve_badArgument hserving nofun (if_pos h),
      fun n h => serve_badArgument hserving nofun (readArg_outOfRange _ n h), fun hwriting => ?busy⟩
    case busy =>
      exact ⟨fun a h => serve_busy hserving nofun (pointArg_inRange a h) rfl hwriting,
        fun n hn h => serve_busy hserving nofun (readArg_inRange _ n hn h) rfl hwriting,
        fun hcommission h v => serve_busy hserving (fun _ => hcommission) (writeArg_inRange ⟨_, h⟩ rfl) rfl hwriting⟩

/-! ## The Config Store -/

/-- In COMMISSION the end of a byte write comes once its time has passed: the byte takes its value, the pointer advances and the address is named (R190, log 3). -/
theorem exec_configWriteDone_writing (a : Fin 2048) (v : Byte) (n : Nat) (s : State) (hphase : s.node.phase = .commission)
    (hwrite : s.store.write = .writing a v n) :
    exec .configWriteDone s = .next (raise (.configWriteDone a) ((endOfWrite s).setStore
      { s.store with array := Memory.write s.store.array a v, write := .idle, pointer := min 2048 (s.store.pointer + 1) })) := by
  simp only [exec, execConfigWriteDone, hphase, hwrite]
  rfl

/-- Settles O57: the requests by `serve_idle` and `serve_badArgument`, the write's end by its equation and `read_write`. -/
theorem configRequestsServeTheStore : Obligations.ConfigRequestsServeTheStore := by
  unfold Obligations.ConfigRequestsServeTheStore
  refine ⟨fun s hserving hidle => ⟨fun a h => serve_idle (which := storeRequest) hserving nofun (pointArg_inRange a h) hidle,
    fun n hn h => serve_idle (which := storeRequest) hserving nofun (readArg_inRange _ n hn h) hidle⟩, fun s hphase => ?commission⟩
  have hserving (hport : s.port = .opened) : Serving s := ⟨hport, by rw [hphase]; decide⟩
  refine ⟨fun hport hidle a v ha => serve_idle (hserving hport) (fun _ => hphase) (writeArg_inRange a ha) hidle,
    fun hport _ hend v => serve_badArgument (hserving hport) (fun _ => hphase) (dif_neg (by omega)), fun a v n hwrite ⟨hwf, _⟩ => ?done⟩
  case done => exact ⟨_, exec_configWriteDone_writing a v n s hphase hwrite, fun x => read_write _ a v x hwf, rfl, rfl, rfl⟩

end Sys2Proof.Machine
end

section
/-! What a step runs, and the commands that change nothing: O1 and O6. -/

namespace Sys2Proof.Machine

open Sys2Proof

/-! ## The front of the queue -/

theorem step_front (c : Instr) (rest : List Instr) (s : State) (h : s.pending = c :: rest) : step s = exec c (s.setPending rest) := by
  unfold step
  rw [h]

/-- Settles O1: `step_front`, the queue being set twice. -/
theorem frontCommandRuns : Obligations.FrontCommandRuns := by
  unfold Obligations.FrontCommandRuns
  intro c rest s
  rw [step_front c rest _ rfl, State.setPending_twice]

/-! ## Every command has a next state -/

/-- A choice between outcomes with next states has one. -/
theorem ite_next {p : Prop} [Decidable p] {x y : Host.Outcome State Fault Refusal} (hx : ∃ t, x = .next t) (hy : ∃ t, y = .next t) :
    ∃ t, (if p then x else y) = .next t := by
  split
  · exact hx
  · exact hy

/-- A command that acts under a condition has a next state either way. -/
theorem guarded_next {p : Prop} [Decidable p] (u s : State) :
    ∃ t, (if p then .next u else .next s : Host.Outcome State Fault Refusal) = .next t := ite_next ⟨u, rfl⟩ ⟨s, rfl⟩

/-- Every command is answered by a next state: those with an effect in every state, under one condition, under several, and the requests. -/
theorem exec_next (c : Instr) (s : State) : ∃ t, exec c s = .next t := by
  cases c
  case lossOfSupply | setupLineChange | contestLost | copyEndNothingTakenBack | laneFaultClear => exact ⟨_, rfl⟩
  case powerOn | loadingReadDone | copyStart | laneFaultAssert | presenceExpiry | catchUpWindowExpiry | backoffExpiry | vacantExpiry
    | debounceExpiry | repeatExpiry | refreshExpiry | fadeTick | pwmPeriodStart | badRequest | chipSelectAssert => exact guarded_next _ _
  case resetLineAssert => exact ite_next ⟨_, rfl⟩ (guarded_next _ _)
  case resetLineRelease | graceExpiry => exact ite_next (guarded_next _ _) ⟨_, rfl⟩
  case inputLevelChange => exact ite_next ⟨_, rfl⟩ (ite_next (guarded_next _ _) ⟨_, rfl⟩)
  case frameReceived L bytes =>
    refine ite_next ?_ ⟨_, rfl⟩
    cases classify bytes with
    | good f => exact guarded_next _ _
    | _ => exact ⟨_, rfl⟩
  case startCounterWriteDone =>
    simp only [exec, execStartCounterWriteDone]
    split
    · exact guarded_next _ _
    · exact ⟨_, rfl⟩
  case configWriteDone =>
    simp only [exec, execConfigWriteDone]
    split <;> exact ⟨_, rfl⟩
  case chipSelectRelease =>
    simp only [exec, execChipSelectRelease]
    split <;> exact ⟨_, rfl⟩
  all_goals exact serve_next _ _ _ s

/-! ## Timers that do not run, and writes that are not under way -/

/-- What waits for a timer's end has no effect while the timer does not run (log 1). -/
theorem guarded_stopped {timer : Timer} (u s : State) (h : timer = .stopped) :
    (if timer.isRunning then .next u else .next s : Host.Outcome State Fault Refusal) = .next s := by
  subst h
  rfl

theorem exec_startCounterWriteDone_unwritten (s : State) (h : (∀ found, s.node.loading ≠ .checked found) ∨ s.store.write = .idle) :
    exec .startCounterWriteDone s = .next s := by
  simp only [exec, execStartCounterWriteDone]
  split
  · next found a v n hfound hwrite => simp [hfound, hwrite] at h
  · rfl

theorem exec_configWriteDone_unwritten (s : State) (h : s.node.phase = .loading ∨ s.store.write = .idle) :
    exec .configWriteDone s = .next s := by
  simp only [exec, execConfigWriteDone]
  split
  · rfl
  · rfl
  · next a v n hwrite hphase => exact absurd (h.resolve_right (by simp [hwrite])) hphase

/-! ## Copies that cannot start, or are not in flight -/

/-- With no copy PENDING for the lane none is selected (R88). -/
theorem startSelected_none (L : Lane) (q : List TxRecord) (h : ∀ r ∈ q, r.copies.get L ≠ .pending) : startSelected L q = q := by
  have hnone (urgent : Bool) : ∀ r ∈ q, selectable L urgent r = false := fun r hr => by simp [selectable, h r hr]
  unfold startSelected
  split <;> exact changeFirst_none _ _ q (hnone _)

/-- A lane that is DISABLED, or DOWN with its fault line asserted, may not send (R41). -/
theorem laneMaySend_false (L : Lane) (s : State)
    (h : (s.lanes.get L).state = .disabled ∨ ((s.lanes.get L).state = .down ∧ s.pins.faultLines.get L = true)) :
    laneMaySend L s = false := by
  rcases h with hdisabled | ⟨hdown, hfault⟩
  · simp [laneMaySend, hdisabled]
  · simp [laneMaySend, hdown, hfault]

/-- A lane that may not send starts no copy (R41). -/
theorem exec_copyStart_unable (L : Lane) (s : State) (h : laneMaySend L s = false) : exec (.copyStart L) s = .next s :=
  if_neg (by simp [h])

/-- Nor does one whose transmitter has a copy in flight (R41). -/
theorem exec_copyStart_taken (L : Lane) (s : State) (h : ∃ r ∈ s.tx.records, r.copies.get L = .inFlight) :
    exec (.copyStart L) s = .next s := by
  obtain ⟨r, hr, hfly⟩ := h
  exact if_neg fun ⟨_, hfree⟩ => (inFlightOn_none L _).mp (Option.isNone_iff_eq_none.mp hfree) r hr hfly

/-- Nor does one for which no copy is PENDING (R88). -/
theorem exec_copyStart_nothing (L : Lane) (s : State) (h : ∀ r ∈ s.tx.records, r.copies.get L ≠ .pending) :
    exec (.copyStart L) s = .next s := by
  simp only [exec, execCopyStart, startSelected_none L _ h]
  split <;> rfl

theorem failAttempt_none (L : Lane) (s : State) (h : ∀ r ∈ s.tx.records, r.copies.get L ≠ .inFlight) : failAttempt L s = s := by
  rw [failAttempt, (inFlightOn_none L _).mpr h]

/-! ## Requests with no transaction waiting for one -/

theorem serve_unopened {α : Type} (which : Screening) (arg : Option α) (act : α → State → Served) (s : State) (h : s.port ≠ .opened) :
    serve which arg act s = .next s := by
  cases hport : s.port with
  | closed => exact serve_closed which arg act s hport
  | opened => exact absurd hport h
  | answered result restarting => exact serve_answered which arg act s result restarting hport

/-- A command with request bytes has no effect unless an open transaction waits for a request (log 8). -/
theorem exec_request_unopened (c : Instr) (s : State) (hc : requestBytes c ≠ []) (h : s.port ≠ .opened) : exec c s = .next s := by
  cases c with
  | badRequest code => exact if_neg fun ⟨hport, _⟩ => h hport
  | _ => first
    | exact absurd rfl hc
    | exact serve_unopened _ _ _ s h

/-- BAD_REQUEST with one of the fourteen codes is no such event (log 23). -/
theorem exec_badRequest_defined (code : Byte) (s : State) (h : code ∈ requestCodes) : exec (.badRequest code) s = .next s :=
  if_neg (by simp [h])

theorem exec_chipSelectRelease_closed (s : State) (h : s.port = .closed) : exec .chipSelectRelease s = .next s := by
  simp only [exec, execChipSelectRelease, h]

/-! ## Lines that have the level already -/

theorem setFaultLine_same (L : Lane) (s : State) : setFaultLine L (s.pins.faultLines.get L) s = s := by
  cases L <;> rfl

/-- Settles O6: `exec_next`, and each command that cannot happen by the guard it does not pass. -/
theorem noCommandStopsTheNode : Obligations.NoCommandStopsTheNode := by
  unfold Obligations.NoCommandStopsTheNode
  refine ⟨exec_next, fun s => ⟨guarded_stopped _ s, guarded_stopped _ s, guarded_stopped _ s, fun z h => ?grace, fun z h => ?vacant,
    fun i => ⟨guarded_stopped _ s, guarded_stopped _ s, guarded_stopped _ s⟩, guarded_stopped _ s, guarded_stopped _ s,
    fun h => if_neg (not_and_or.mpr h), exec_startCounterWriteDone_unwritten s, exec_configWriteDone_unwritten s,
    fun L => ⟨fun h => ?start, fun h => ?fail⟩, fun c hc => exec_request_unopened c s hc, fun code => exec_badRequest_defined code s,
    fun h => if_neg fun ⟨hclosed, _⟩ => h hclosed, exec_chipSelectRelease_closed s, fun h => if_pos h, fun h => ?release, rfl,
    fun L => ⟨fun h => if_pos h, fun h => ?clear⟩, fun i => if_pos rfl⟩⟩
  case grace => exact if_neg fun ⟨hstate, hrunning⟩ => h.elim (· hstate) (Timer.ne_of_isRunning hrunning)
  case vacant => exact if_neg fun ⟨hstate, hrunning⟩ => h.elim (· hstate) (Timer.ne_of_isRunning hrunning)
  case start =>
    rcases h with hdisabled | hdown | htaken | hnothing
    · exact exec_copyStart_unable L s (laneMaySend_false L s (.inl hdisabled))
    · exact exec_copyStart_unable L s (laneMaySend_false L s (.inr hdown))
    · exact exec_copyStart_taken L s htaken
    · exact exec_copyStart_nothing L s hnothing
  case fail =>
    have hkept : (.next (failAttempt L s) : Host.Outcome State Fault Refusal) = .next s := congrArg _ (failAttempt_none L s h)
    exact ⟨hkept, hkept⟩
  case release => exact if_neg (by simp [h])
  case clear => exact congrArg _ (h ▸ setFaultLine_same L s)

end Sys2Proof.Machine
end

section
/-! Copies that start, and attempts that fail before their sixteenth: O28 and O29. -/

namespace Sys2Proof.Machine

open Sys2Proof

/-! ## The copy that starts -/

theorem laneMaySend_true (L : Lane) (s : State)
    (h : (s.lanes.get L).state = .up ∨ ((s.lanes.get L).state = .down ∧ s.pins.faultLines.get L = false)) : laneMaySend L s = true := by
  unfold laneMaySend
  rcases h with h | ⟨h, hclear⟩
  · rw [h]
  · rw [h]
    simp [hclear]

theorem selectable_iff (L : Lane) (urgent : Bool) (r : TxRecord) :
    selectable L urgent r = true ↔ r.payload.urgent = urgent ∧ r.copies.get L = .pending := by
  simp [selectable]

theorem selectable_eq_false_iff (L : Lane) (urgent : Bool) (r : TxRecord) :
    selectable L urgent r = false ↔ (r.payload.urgent = urgent → r.copies.get L ≠ .pending) := by
  rw [← Bool.not_eq_true, selectable_iff, not_and]

section
variable {L : Lane} {older younger : List TxRecord} {r : TxRecord} (hr : r.copies.get L = .pending)
include hr

/-- The oldest URGENT record with a PENDING copy is selected (R88). -/
theorem startSelected_urgent (hu : r.payload.urgent = true) (ho : ∀ q ∈ older, q.payload.urgent = true → q.copies.get L ≠ .pending) :
    startSelected L (older ++ r :: younger) = older ++ r.setCopy L .inFlight :: younger := by
  have hsel : selectable L true r = true := (selectable_iff L true r).mpr ⟨hu, hr⟩
  rw [startSelected, if_pos (by simp [hsel])]
  exact changeFirst_at _ _ _ _ _ (fun q hq => (selectable_eq_false_iff L true q).mpr (ho q hq)) hsel

/-- With no URGENT one PENDING, the oldest ROUTINE record with a PENDING copy is selected (R88). -/
theorem startSelected_routine (hu : r.payload.urgent = false) (ho : ∀ q ∈ older, q.copies.get L ≠ .pending)
    (hy : ∀ q ∈ younger, q.payload.urgent = true → q.copies.get L ≠ .pending) :
    startSelected L (older ++ r :: younger) = older ++ r.setCopy L .inFlight :: younger := by
  have hnone : (older ++ r :: younger).any (selectable L true) = false := by
    simp only [List.any_append, List.any_cons, Bool.or_eq_false_iff, List.any_eq_false, selectable_iff]
    exact ⟨fun q hq h => ho q hq h.2, by simp [selectable, hu], fun q hq h => hy q hq h.1 h.2⟩
  rw [startSelected, if_neg (by simp [hnone])]
  exact changeFirst_at _ _ _ _ _ (fun q hq => (selectable_eq_false_iff L false q).mpr (fun _ => ho q hq))
    ((selectable_iff L false r).mpr ⟨hu, hr⟩)

end

theorem exec_copyStart_free (L : Lane) (s : State) (hsend : laneMaySend L s = true) (hfree : inFlightOn L s.tx.records = none) :
    exec (.copyStart L) s = .next (s.setTx { s.tx with records := startSelected L s.tx.records }) :=
  if_pos ⟨hsend, by rw [hfree]; rfl⟩

/-- Settles O28: `exec_copyStart_free`, with the record selected by its class. -/
theorem copyStartTakesTheOldestOfItsClass : Obligations.CopyStartTakesTheOldestOfItsClass := by
  unfold Obligations.CopyStartTakesTheOldestOfItsClass
  intro L s older younger r hlane hfree hq hr holdest
  rw [exec_copyStart_free L s (laneMaySend_true L s hlane) hfree, hq]
  rcases holdest with ⟨hu, ho⟩ | ⟨hu, ho, hy⟩
  · rw [startSelected_urgent hr hu ho]
  · rw [startSelected_routine hr hu ho hy]

/-! ## Attempts that fail -/

/-- Below its sixteenth failed attempt a copy is PENDING again in its place (R43, R90). -/
theorem failAttempt_retry (L : Lane) (s : State) (older younger : List TxRecord) (r : TxRecord) (h : s.tx.records = older ++ r :: younger)
    (hold : ∀ q ∈ older, q.copies.get L ≠ .inFlight) (hr : r.copies.get L = .inFlight) (hn : r.attempts.get L < 15) :
    failAttempt L s = (countLane L .txContention s).setTx { s.tx with
      records := older ++ { r with copies := r.copies.put L .pending, attempts := r.attempts.put L (r.attempts.get L + 1) } :: younger } := by
  have htx : (countLane L .txContention s).tx = s.tx := by simp
  have hfew : r.attempts.get L + 1 < lastAttempt := Nat.succ_lt_succ hn
  unfold failAttempt
  rw [h, inFlightOn_first L older younger r hold hr]
  dsimp only
  rw [if_pos hfew, changeInFlight_records L _ _ older younger r (by rw [htx, h]) hold hr, htx]
  rfl

theorem exec_contestLost (L : Lane) (s : State) : exec (.contestLost L) s = .next (failAttempt L s) := rfl

theorem exec_copyEndNothingTakenBack (L : Lane) (s : State) : exec (.copyEndNothingTakenBack L) s = .next (failAttempt L s) := rfl

/-- A frame of a class other than GOOD is counted, and fails the attempt of the lane's copy in flight (R35, R43). -/
theorem exec_badClass (L : Lane) (bytes : List Byte) (c : LaneCounter) (s : State) (h : laneReceives L s = true) (hc : badClass bytes c) :
    exec (.frameReceived L bytes) s = .next (failAttempt L (countLane L c s)) := by
  rcases hc with ⟨hclass, rfl⟩ | ⟨hclass, rfl⟩ | ⟨hclass, rfl⟩ | ⟨hclass, rfl⟩ <;>
    simp only [exec, execFrameReceived, h, if_true, hclass] <;> rfl

/-- Settles O29: all three are `failAttempt_retry`, the echo's on the state with its class counted. -/
theorem failedAttemptReturnsTheCopy : Obligations.FailedAttemptReturnsTheCopy := by
  unfold Obligations.FailedAttemptReturnsTheCopy
  intro L s older younger r hq hold hr hn failed
  have hretry : failAttempt L s = failed s := failAttempt_retry L s older younger r hq hold hr hn
  refine ⟨by rw [exec_contestLost, hretry], by rw [exec_copyEndNothingTakenBack, hretry], fun bytes c htaken hclass => ?_⟩
  have htx : (countLane L c s).tx = s.tx := by simp
  rw [exec_badClass L bytes c s htaken hclass, failAttempt_retry L _ older younger r (htx ▸ hq) hold hr hn, htx]

end Sys2Proof.Machine
end

section
/-! Copies abandoned: by the sixteenth failed attempt, by the second abandon in a row, and by a rising fault line: O30 and O31. -/

namespace Sys2Proof.Machine

open Sys2Proof

/-! ## Counts of a lane -/

theorem laneIndex_injective (L : Lane) (c d : LaneCounter) (h : laneIndex L c = laneIndex L d) : c = d := by
  revert h
  cases L <;> cases c <;> cases d <;> decide

theorem countLane_live (L : Lane) (c : LaneCounter) (s : State) (i : Fin 28) :
    (countLane L c s).counters.live[i] = if i = laneIndex L c then oneMore s.counters.live[i] else s.counters.live[i] :=
  countAt_live _ _ _

theorem countLane_live_same (L : Lane) (c : LaneCounter) (s : State) :
    (countLane L c s).counters.live[laneIndex L c] = oneMore s.counters.live[laneIndex L c] := by
  rw [countLane_live, if_pos rfl]

theorem countLane_live_other (L : Lane) (c d : LaneCounter) (s : State) (h : d ≠ c) :
    (countLane L c s).counters.live[laneIndex L d] = s.counters.live[laneIndex L d] := by
  rw [countLane_live, if_neg (fun he => h (laneIndex_injective L d c he))]

/-- A count leaves the event of a lane going DOWN. -/
theorem countLane_laneDown (L : Lane) (c : LaneCounter) (s : State) :
    (countLane L c s).events.records.laneDown = s.events.records.laneDown := by
  rw [countLane, countAt_events]

/-- One counter of a lane counted once for each of several records. -/
def countEach (L : Lane) (c : LaneCounter) (l : List TxRecord) (s : State) : State := l.foldl (fun s _ => countLane L c s) s

theorem countEach_changes (L : Lane) (c : LaneCounter) (l : List TxRecord) (s : State) :
    countEach L c l s = { s with counters := (countEach L c l s).counters, events := (countEach L c l s).events } := by
  unfold countEach
  induction l generalizing s with
  | nil => rfl
  | cons a l ih =>
    rw [List.foldl_cons, ih]
    apply State.eq_of_fields <;> simp

theorem countEach_laneDown (L : Lane) (c : LaneCounter) (l : List TxRecord) (s : State) :
    (countEach L c l s).events.records.laneDown = s.events.records.laneDown :=
  foldl_keep (fun s : State => s.events.records.laneDown) _ (fun s _ => countLane_laneDown L c s) l s

theorem countEach_other (L : Lane) (c : LaneCounter) (l : List TxRecord) (s : State) (i : Fin 28) (h : i ≠ laneIndex L c) :
    (countEach L c l s).counters.live[i] = s.counters.live[i] :=
  foldl_keep (fun s : State => s.counters.live[i]) _ (fun s _ => (countLane_live L c s i).trans (if_neg h)) l s

/-- The counter rises by the number of records, stopping at its greatest value (R174). -/
theorem countEach_live (L : Lane) (c : LaneCounter) (l : List TxRecord) (s : State) :
    (countEach L c l s).counters.live[laneIndex L c].toNat = min maxWord.toNat (s.counters.live[laneIndex L c].toNat + l.length) := by
  unfold countEach
  induction l generalizing s with
  | nil =>
    have hle : s.counters.live[laneIndex L c].toNat ≤ maxWord.toNat := Nat.le_of_lt_succ (BitVec.isLt _)
    exact (Nat.min_eq_right hle).symm
  | cons a l ih =>
    rw [List.foldl_cons, ih, countLane_live_same, oneMore_toNat, List.length_cons]
    omega

/-! ## A lane that goes DOWN -/

/-- The record with a PENDING copy on the lane ABANDONED. -/
def dropPending (L : Lane) (r : TxRecord) : TxRecord := if r.copies.get L = .pending then r.setCopy L .abandoned else r

theorem pendingOn_iff (L : Lane) (r : TxRecord) : pendingOn L r = true ↔ r.copies.get L = .pending := by simp [pendingOn]

/-- The lane DOWN with count 0 and LANE_DOWN raised, its records' PENDING copies counted but still to be ABANDONED (R46, R91). -/
def laneLost (L : Lane) (s : State) : State :=
  countEach L .txAbandoned (s.tx.records.filter (pendingOn L))
    (raise (.laneDown (oneLane L)) (putLane L { state := .down, abandons := 0 } s))

section
variable (L : Lane) (s : State)

theorem laneLost_changes :
    laneLost L s = { s with lanes := s.lanes.put L { state := .down, abandons := 0 }, counters := (laneLost L s).counters,
                            events := (laneLost L s).events } := by
  unfold laneLost
  rw [countEach_changes]
  apply State.eq_of_fields <;> simp [putLane]

theorem takeLaneDown_eq :
    takeLaneDown L s = (laneLost L s).setTx { s.tx with records := s.tx.records.map (dropPending L) } := by
  have htx : (laneLost L s).tx = s.tx := by rw [laneLost_changes]
  have hdrop : (fun r : TxRecord => if pendingOn L r = true then r.setCopy L .abandoned else r) = dropPending L := by
    funext r
    simp only [dropPending, pendingOn_iff]
  show (laneLost L s).setTx { (laneLost L s).tx with records := (laneLost L s).tx.records.map _ } = _
  rw [htx, hdrop]

theorem takeLaneDown_lanes : (takeLaneDown L s).lanes = s.lanes.put L { state := .down, abandons := 0 } := by
  rw [takeLaneDown_eq, laneLost_changes]
  rfl

theorem takeLaneDown_tx : (takeLaneDown L s).tx = { s.tx with records := s.tx.records.map (dropPending L) } := by
  rw [takeLaneDown_eq]
  rfl

theorem takeLaneDown_laneDown : (takeLaneDown L s).events.records.laneDown = andLane s.events.records.laneDown L := by
  rw [takeLaneDown_eq, State.setTx_events, laneLost, countEach_laneDown]
  rfl

theorem takeLaneDown_live :
    (takeLaneDown L s).counters.live[laneIndex L .txAbandoned].toNat =
      min maxWord.toNat (s.counters.live[laneIndex L .txAbandoned].toNat + s.tx.records.countP (fun r => r.copies.get L == .pending)) := by
  rw [takeLaneDown_eq, State.setTx_counters, laneLost, countEach_live, ← List.countP_eq_length_filter]
  rfl

theorem takeLaneDown_live_other (i : Fin 28) (h : i ≠ laneIndex L .txAbandoned) :
    (takeLaneDown L s).counters.live[i] = s.counters.live[i] := by
  rw [takeLaneDown_eq, State.setTx_counters, laneLost, countEach_other _ _ _ _ _ h]
  rfl

end

/-! ## Records whose copies on a lane are gone -/

/-- `q'` is `q` with its copy on the lane ABANDONED if it was live, whatever its attempts (R90, R91). -/
def CopyGone (L : Lane) (q q' : TxRecord) : Prop :=
  q'.payload = q.payload ∧ q'.copies = if (q.copies.get L).live then q.copies.put L .abandoned else q.copies

namespace CopyGone
variable {L : Lane} {q q' : TxRecord}

theorem copy (h : CopyGone L q q') : q'.copies.get L = if (q.copies.get L).live then .abandoned else q.copies.get L := by
  rw [h.2]
  split <;> simp

theorem other (h : CopyGone L q q') : q'.copies.get L.other = q.copies.get L.other := by
  rw [h.2]
  split <;> simp

/-- The record lives on by its other copy alone. -/
theorem live (h : CopyGone L q q') : q'.live = (q'.copies.get L.other).live := by
  have hdead : (q'.copies.get L).live = false := by
    rw [h.copy]
    split
    · rfl
    · next hl => simpa using hl
  rw [live_iff q' L, hdead, Bool.false_or]

/-- It leaves as a failed ask exactly where its live copy on the lane was the last hope of a SYNC_ASK (R93, R94). -/
theorem report (h : CopyGone L q q') (hq : q.live = true) : (!q'.live && q'.unsentAsk) = askDiesOn L q := by
  have hstates : ∀ (this other : CopyState) (ask : Bool), (this.live || other.live) = true →
      (!other.live && (ask && (if this.live then CopyState.abandoned else this) != .sent && other != .sent)) =
        (ask && this.live && (other == .abandoned || other == .notUsed)) := by
    intro this other ask
    cases this <;> cases other <;> cases ask <;> decide
  rw [h.live, unsentAsk_iff q' L, h.copy, h.other, h.1, askDiesOn]
  exact hstates _ _ _ (live_iff q L ▸ hq)

end CopyGone

/-- The queue once it is settled, its reports to the asker still to come (R93). -/
def settled (s : State) : State := s.setTx { s.tx with records := s.tx.records.filter TxRecord.live }

theorem settle_eq_settled (s : State) :
    settle s = askFailed^[(s.tx.records.filter fun r => !r.live).countP TxRecord.unsentAsk] (settled s) := settle_eq s

/-- With every record living on, settling changes nothing. -/
theorem settle_live (s : State) (h : ∀ r ∈ s.tx.records, r.live = true) : settle s = s := by
  rw [settle_eq, List.filter_eq_nil_iff.mpr (by simpa using h), List.filter_eq_self.mpr h]
  rfl

section
variable {L : Lane} {l l' : List TxRecord} (h : List.Forall₂ (CopyGone L) l l')
include h

/-- Of records whose copies on a lane are gone, those with a live copy on the other lane stay. -/
theorem copyGone_filter : l'.filter TxRecord.live = l'.filter fun q => (q.copies.get L.other).live := by
  induction h with
  | nil => rfl
  | cons hq _ ih => rw [List.filter_cons, List.filter_cons, ih, hq.live]

/-- Each SYNC_ASK among them whose last hope is gone is reported. -/
theorem copyGone_reports (hl : ∀ q ∈ l, q.live = true) :
    (l'.filter fun r => !r.live).countP TxRecord.unsentAsk = l.countP (askDiesOn L) := by
  rw [List.countP_filter]
  induction h with
  | nil => rfl
  | cons hq _ ih =>
    rw [List.countP_cons, List.countP_cons, ih (fun q hmem => hl q (List.mem_cons_of_mem _ hmem)), ← hq.report (hl _ List.mem_cons_self),
      Bool.and_comm]

/-- The queue of such records settled. -/
theorem settle_copyGone (hl : ∀ q ∈ l, q.live = true) (s : State) (hs : s.tx.records = l') :
    settle s = askFailed^[l.countP (askDiesOn L)] (s.setTx { s.tx with records := l'.filter fun q => (q.copies.get L.other).live }) := by
  rw [settle_eq, hs, copyGone_reports h hl, copyGone_filter h]

end

/-- One record may be at rest among others that live on: it stays or leaves, and is reported if it leaves as an unsent SYNC_ASK (R93, R94). -/
theorem settle_beside (s : State) (older younger : List TxRecord) (r : TxRecord) (h : s.tx.records = older ++ r :: younger)
    (hlive : ∀ q ∈ older ++ younger, q.live = true) :
    settle s = askFailed^[if (!r.live && r.unsentAsk) = true then 1 else 0]
      (s.setTx { s.tx with records := older ++ (if r.live then [r] else []) ++ younger }) := by
  cases hr : r.live with
  | true =>
    have hall : ∀ q ∈ s.tx.records, q.live = true := by
      rw [h]
      intro q hq
      rcases List.mem_append.mp hq with hq | hq
      · exact hlive q (List.mem_append_left _ hq)
      · rcases List.mem_cons.mp hq with rfl | hq
        · exact hr
        · exact hlive q (List.mem_append_right _ hq)
    have hstay : older ++ [r] ++ younger = s.tx.records := by simp [h]
    rw [settle_live s hall]
    show s = s.setTx { s.tx with records := older ++ [r] ++ younger }
    rw [hstay]
    rfl
  | false =>
    rw [settle_one s older younger r h hlive hr]
    cases r.unsentAsk <;> simp [reportLost]

/-! ## The sixteenth failed attempt -/

/-- No other record has a copy in flight on the lane (R87). -/
theorem flyingOn_alone_younger (L : Lane) (older younger : List TxRecord) (r : TxRecord) (h : flyingOn L (older ++ r :: younger) ≤ 1)
    (hr : r.copies.get L = .inFlight) : ∀ q ∈ younger, q.copies.get L ≠ .inFlight := by
  refine flyingOn_alone L younger older r ?_ hr
  simp only [flyingOn, List.countP_append, List.countP_cons] at h ⊢
  omega

/-- The node with the lane's copy in flight out of attempts, both counts taken, its lane still to be looked at (R43, R90). -/
def exhausted (L : Lane) (older younger : List TxRecord) (r : TxRecord) (s : State) : State :=
  (countLane L .txAbandoned (countLane L .txContention s)).setTx { s.tx with records := older ++ exhaustCopy L r :: younger }

theorem exhaustCopy_gone (L : Lane) (r : TxRecord) (hr : r.copies.get L = .inFlight) : CopyGone L r (exhaustCopy L r) := by
  refine ⟨rfl, ?_⟩
  rw [hr]
  rfl

section
variable {L : Lane} {s : State} {older younger : List TxRecord} {r : TxRecord}

theorem exhausted_changes :
    exhausted L older younger r s = { s with tx := { s.tx with records := older ++ exhaustCopy L r :: younger },
                                             counters := (exhausted L older younger r s).counters,
                                             events := (exhausted L older younger r s).events } := by
  unfold exhausted
  apply State.eq_of_fields <;> simp

theorem exhausted_txContention :
    (exhausted L older younger r s).counters.live[laneIndex L .txContention] = oneMore s.counters.live[laneIndex L .txContention] := by
  rw [exhausted, State.setTx_counters, countLane_live_other _ _ _ _ (by decide), countLane_live_same]

theorem exhausted_txAbandoned :
    (exhausted L older younger r s).counters.live[laneIndex L .txAbandoned] = oneMore s.counters.live[laneIndex L .txAbandoned] := by
  rw [exhausted, State.setTx_counters, countLane_live_same, countLane_live_other _ _ _ _ (by decide)]

theorem exhausted_laneDown : (exhausted L older younger r s).events.records.laneDown = s.events.records.laneDown := by
  rw [exhausted, State.setTx_events, countLane_laneDown, countLane_laneDown]

/-- On a lane that is not UP an abandon is not counted in a row (R44). -/
theorem countAbandon_notUp (h : (s.lanes.get L).state ≠ .up) : countAbandon L s = s := if_neg h

/-- The second abandon in a row takes the lane DOWN (R44). -/
theorem countAbandon_again (h : (s.lanes.get L).state = .up) (hn : 1 ≤ (s.lanes.get L).abandons) : countAbandon L s = takeLaneDown L s :=
  (if_pos h).trans (if_pos (Nat.succ_le_succ hn))

theorem dropPending_idle {q : TxRecord} (h : q.copies.get L ≠ .inFlight) : CopyGone L q (dropPending L q) := by
  unfold dropPending
  split
  · next hp =>
    refine ⟨rfl, ?_⟩
    rw [hp]
    rfl
  · next hp =>
    have hdead : (q.copies.get L).live = false := by
      cases hc : q.copies.get L <;> simp_all [CopyState.live]
    exact ⟨rfl, by simp [hdead]⟩

/-- With its lane DOWN every live copy of the lane is gone: the one out of attempts, and those that waited. -/
theorem lost_copyGone (ho : ∀ q ∈ older, q.copies.get L ≠ .inFlight) (hy : ∀ q ∈ younger, q.copies.get L ≠ .inFlight)
    (hr : r.copies.get L = .inFlight) :
    List.Forall₂ (CopyGone L) (older ++ r :: younger) ((older ++ exhaustCopy L r :: younger).map (dropPending L)) := by
  have hidle (l : List TxRecord) (hl : ∀ q ∈ l, q.copies.get L ≠ .inFlight) : List.Forall₂ (CopyGone L) l (l.map (dropPending L)) :=
    List.forall₂_map_right_iff.mpr (List.forall₂_same.mpr fun q hq => dropPending_idle (hl q hq))
  have hgone : dropPending L (exhaustCopy L r) = exhaustCopy L r := if_neg (by simp [exhaustCopy])
  rw [List.map_append, List.map_cons, hgone]
  exact List.rel_append (hidle older ho) (.cons (exhaustCopy_gone L r hr) (hidle younger hy))

/-- The queue an attempt leaves behind that was its copy's last, on a lane that stays as it is (R93). -/
def leftQueue (L : Lane) (older younger : List TxRecord) (r : TxRecord) (s : State) : TransmitQueue :=
  { s.tx with records := older ++ (if (r.copies.get L.other).live then [exhaustCopy L r] else []) ++ younger }

/-- The queue of a lane gone DOWN at its second abandon (R44, R91, R93). -/
def lostQueue (L : Lane) (older younger : List TxRecord) (r : TxRecord) (s : State) : TransmitQueue :=
  { s.tx with records :=
      ((older ++ exhaustCopy L r :: younger).map (dropPending L)).filter fun q => (q.copies.get L.other).live }

variable (hq : QueueSound s) (h : s.tx.records = older ++ r :: younger) (hr : r.copies.get L = .inFlight) (hn : r.attempts.get L = 15)
include hq h hr hn

/-- The sixteenth failed attempt on a lane that it does not take DOWN (R43, R44, R90). -/
theorem failAttempt_last_stays (hstays : ¬ ((s.lanes.get L).state = .up ∧ 1 ≤ (s.lanes.get L).abandons)) :
    failAttempt L s = askFailed^[if askDiesOn L r = true then 1 else 0]
      ((countAbandon L (exhausted L older younger r s)).setTx (leftQueue L older younger r s)) := by
  have hlive : ∀ q ∈ older ++ r :: younger, q.live = true := fun q hmem => List.all_eq_true.mp hq.live q (h ▸ hmem)
  have hlanes : (exhausted L older younger r s).lanes = s.lanes := by rw [exhausted_changes]
  have htx : (countAbandon L (exhausted L older younger r s)).tx = { s.tx with records := older ++ exhaustCopy L r :: younger } := by
    by_cases hup : (s.lanes.get L).state = .up
    · rw [countAbandon_up L _ (hlanes ▸ hup) (by rw [hlanes]; have := not_and.mp hstays hup; omega)]
      rfl
    · rw [countAbandon_notUp (hlanes ▸ hup)]
      rfl
  have hgone := exhaustCopy_gone L r hr
  have hbeside : ∀ q ∈ older ++ younger, q.live = true := fun q hmem => by
    rcases List.mem_append.mp hmem with hmem | hmem
    · exact hlive q (List.mem_append_left _ hmem)
    · exact hlive q (List.mem_append_right _ (List.mem_cons_of_mem r hmem))
  rw [failAttempt_last L s older younger r h (flyingOn_alone L older younger r (h ▸ hq.flying L) hr) hr hn]
  show settle (countAbandon L (exhausted L older younger r s)) = _
  rw [settle_beside _ older younger (exhaustCopy L r) (by rw [htx]) hbeside, hgone.report (hlive r (by simp)), hgone.live, hgone.other, htx]
  rfl

/-- The sixteenth failed attempt that is the second abandon in a row on an UP lane (R44, R46, R91). -/
theorem failAttempt_last_down (hup : (s.lanes.get L).state = .up) (hagain : 1 ≤ (s.lanes.get L).abandons) :
    failAttempt L s = askFailed^[s.tx.records.countP (askDiesOn L)]
      ((takeLaneDown L (exhausted L older younger r s)).setTx (lostQueue L older younger r s)) := by
  have hlive : ∀ q ∈ older ++ r :: younger, q.live = true := fun q hmem => List.all_eq_true.mp hq.live q (h ▸ hmem)
  have hlanes : (exhausted L older younger r s).lanes = s.lanes := by rw [exhausted_changes]
  have hold := flyingOn_alone L older younger r (h ▸ hq.flying L) hr
  have hyoung := flyingOn_alone_younger L older younger r (h ▸ hq.flying L) hr
  rw [failAttempt_last L s older younger r h hold hr hn]
  show settle (countAbandon L (exhausted L older younger r s)) = _
  rw [countAbandon_again (hlanes ▸ hup) (by rw [hlanes]; exact hagain),
    settle_copyGone (lost_copyGone hold hyoung hr) hlive _ (by rw [takeLaneDown_tx]; rfl), h, takeLaneDown_tx]
  rfl

end

/-- Settles O30: a bad echo by `exec_badClass`, and the lane that goes DOWN or stays by `failAttempt_last_down` and `failAttempt_last_stays`. -/
theorem sixteenthFailureAbandons : Obligations.SixteenthFailureAbandons := by
  unfold Obligations.SixteenthFailureAbandons
  intro L s older younger r hq h hr hn left
  refine ⟨fun bytes c => exec_badClass L bytes c s, ?_⟩
  intro failed
  have hlanes : (exhausted L older younger r s).lanes = s.lanes := by rw [exhausted_changes]
  by_cases hdown : (s.lanes.get L).state = .up ∧ 1 ≤ (s.lanes.get L).abandons
  · have hfail := failAttempt_last_down hq h hr hn hdown.1 hdown.2
    have hfailed : failed = s.tx.records.countP (askDiesOn L) := if_pos hdown
    rw [hfailed]
    refine ⟨_, congrArg _ hfail, congrArg _ hfail, ?contention, ?other, fun _ hz => absurd hdown.2 (by omega), fun _ _ => ⟨?lane, ?event, ?queue, ?counts⟩,
      fun hd => absurd hdown.1 (by simp [hd]), ?frame⟩
    case contention => rw [State.setTx_counters, takeLaneDown_live_other _ _ _ (fun he => absurd (laneIndex_injective L _ _ he) (by decide)),
      exhausted_txContention]
    case other => rw [State.setTx_lanes, takeLaneDown_lanes, PerLane.put_get_other, hlanes]
    case lane => rw [State.setTx_lanes, takeLaneDown_lanes, PerLane.put_get]
    case event => rw [State.setTx_events, takeLaneDown_laneDown, exhausted_laneDown]
    case queue => rfl
    case counts =>
      rw [State.setTx_counters, takeLaneDown_live, exhausted_txAbandoned, oneMore_toNat, h]
      simp [exhausted, exhaustCopy, hr]
      omega
    case frame => apply State.eq_of_fields <;> simp [exhausted]
  · have hfail := failAttempt_last_stays hq h hr hn hdown
    have hfailed : failed = if askDiesOn L r = true then 1 else 0 := if_neg hdown
    rw [hfailed]
    by_cases hup : (s.lanes.get L).state = .up
    · have hcount := countAbandon_up L (exhausted L older younger r s) (hlanes ▸ hup)
        (by rw [hlanes]; have := not_and.mp hdown hup; omega)
      have hzero : (s.lanes.get L).abandons = 0 := by have := not_and.mp hdown hup; omega
      rw [hcount] at hfail
      refine ⟨_, congrArg _ hfail, congrArg _ hfail, ?_, ?_, fun _ _ => ⟨?_, ?_, ?_⟩,
        fun _ hone => absurd ⟨hup, by omega⟩ hdown, fun hd => absurd hup (by simp [hd]), ?_⟩
      · rw [State.setTx_counters, State.setLanes_counters, exhausted_txContention]
      · rw [State.setTx_lanes, State.setLanes_lanes, PerLane.put_get_other, hlanes]
      · simp [hlanes]
      · rw [State.setTx_counters, State.setLanes_counters, exhausted_txAbandoned]
      · rfl
      · apply State.eq_of_fields <;> simp [exhausted]
    · have hcount := countAbandon_notUp (s := exhausted L older younger r s) (hlanes ▸ hup)
      rw [hcount] at hfail
      refine ⟨_, congrArg _ hfail, congrArg _ hfail, ?_, ?_, fun hu => absurd hu hup, fun hu => absurd hu hup,
        fun _ => ⟨?_, ?_, ?_, ?_⟩, ?_⟩
      · rw [State.setTx_counters, exhausted_txContention]
      · rw [State.setTx_lanes, hlanes]
      · rw [State.setTx_lanes, hlanes]
      · rw [State.setTx_events, exhausted_laneDown]
      · rw [State.setTx_counters, exhausted_txAbandoned]
      · rfl
      · apply State.eq_of_fields <;> simp [exhausted]

/-! ## A fault line that rises -/

/-- The record with its copy in flight on the lane ABANDONED. -/
def dropFlying (L : Lane) (r : TxRecord) : TxRecord := if r.copies.get L = .inFlight then r.setCopy L .abandoned else r

/-- The record with its live copy on the lane ABANDONED. -/
def dropLive (L : Lane) (r : TxRecord) : TxRecord := if (r.copies.get L).live then r.setCopy L .abandoned else r

theorem dropLive_gone (L : Lane) (q : TxRecord) : CopyGone L q (dropLive L q) := by
  unfold dropLive CopyGone
  cases (q.copies.get L).live <;> exact ⟨rfl, rfl⟩

/-- A live copy is PENDING or IN_FLIGHT: with both gone the live copy is gone. -/
theorem dropPending_dropFlying (L : Lane) (q : TxRecord) : dropPending L (dropFlying L q) = dropLive L q := by
  unfold dropLive
  cases hq : q.copies.get L with
  | inFlight => simp [dropFlying, dropPending, hq, TxRecord.setCopy, CopyState.live]
  | _ => simp [dropFlying, dropPending, hq, CopyState.live]

theorem dropFlying_pending (L : Lane) (q : TxRecord) : (dropFlying L q).copies.get L = .pending ↔ q.copies.get L = .pending := by
  unfold dropFlying
  split
  · next h => simp [h]
  · exact Iff.rfl

theorem map_dropFlying_idle (L : Lane) (l : List TxRecord) (h : ∀ q ∈ l, q.copies.get L ≠ .inFlight) : l.map (dropFlying L) = l :=
  (List.map_congr_left fun q hq => if_neg (h q hq)).trans (List.map_id l)

theorem countP_live (L : Lane) (l : List TxRecord) :
    l.countP (fun r => (r.copies.get L).live) = flyingOn L l + l.countP (fun r => r.copies.get L == .pending) := by
  unfold flyingOn
  induction l with
  | nil => rfl
  | cons q l ih =>
    have hq : (if (q.copies.get L).live = true then 1 else 0) =
        (if (q.copies.get L == .inFlight) = true then 1 else 0) + if (q.copies.get L == .pending) = true then 1 else 0 := by
      cases q.copies.get L <;> rfl
    simp only [List.countP_cons, ih, hq]
    omega

section
variable {L : Lane} {s : State} (hfly : flyingOn L s.tx.records ≤ 1)

/-- Nothing in flight on the lane: nothing is abandoned. -/
theorem abandonInFlight_idle (h : ∀ q ∈ s.tx.records, q.copies.get L ≠ .inFlight) : abandonInFlight L s = s := by
  unfold abandonInFlight
  rw [(inFlightOn_none L _).mpr h]

include hfly in
/-- The copy in flight is the lane's only one: its record changes, in its place (R87). -/
theorem abandonInFlight_tx : (abandonInFlight L s).tx = { s.tx with records := s.tx.records.map (dropFlying L) } := by
  cases hin : inFlightOn L s.tx.records with
  | none =>
    have hidle := (inFlightOn_none L _).mp hin
    rw [abandonInFlight_idle hidle, map_dropFlying_idle L _ hidle]
  | some r =>
    obtain ⟨older, younger, hs, _, hr⟩ := split_first _ _ r hin
    have hr : r.copies.get L = .inFlight := by simpa using hr
    have ho := flyingOn_alone L older younger r (hs ▸ hfly) hr
    have hy := flyingOn_alone_younger L older younger r (hs ▸ hfly) hr
    have hmap : s.tx.records.map (dropFlying L) = older ++ r.setCopy L .abandoned :: younger := by
      rw [hs, List.map_append, List.map_cons, map_dropFlying_idle L _ ho, map_dropFlying_idle L _ hy, dropFlying, if_pos hr]
    unfold abandonInFlight
    rw [hin, hmap, changeInFlight_records L _ s older younger r hs ho hr]
    simp

theorem abandonInFlight_live (i : Fin 28) :
    (abandonInFlight L s).counters.live[i] =
      if i = laneIndex L .txAbandoned ∧ (∃ r ∈ s.tx.records, r.copies.get L = .inFlight) then oneMore s.counters.live[i]
      else s.counters.live[i] := by
  cases hin : inFlightOn L s.tx.records with
  | none =>
    have hidle := (inFlightOn_none L _).mp hin
    rw [abandonInFlight_idle hidle, if_neg fun h => h.2.elim fun r hr => hidle r hr.1 hr.2]
  | some r =>
    have hr : ∃ r ∈ s.tx.records, r.copies.get L = .inFlight := by
      obtain ⟨older, younger, hs, _, hr⟩ := split_first _ _ r hin
      exact ⟨r, by simp [hs], by simpa using hr⟩
    unfold abandonInFlight
    rw [hin, countLane_live]
    simp only [hr, and_true]
    rfl

theorem abandonInFlight_laneDown : (abandonInFlight L s).events.records.laneDown = s.events.records.laneDown := by
  unfold abandonInFlight
  split
  · rfl
  · exact countLane_laneDown _ _ _

include hfly in
/-- The copies counted: the one in flight, and then with the lane DOWN the PENDING ones (R91, R174). -/
theorem takeLaneDown_abandonInFlight_live :
    (takeLaneDown L (abandonInFlight L s)).counters.live[laneIndex L .txAbandoned].toNat =
      min maxWord.toNat (s.counters.live[laneIndex L .txAbandoned].toNat + s.tx.records.countP (fun r => (r.copies.get L).live)) := by
  have hpending : (s.tx.records.map (dropFlying L)).countP (fun r => r.copies.get L == .pending) =
      s.tx.records.countP (fun r => r.copies.get L == .pending) := by
    rw [List.countP_map]
    exact List.countP_congr fun q _ => by simp [dropFlying_pending]
  have hcount : (∃ r ∈ s.tx.records, r.copies.get L = .inFlight) ↔ 0 < flyingOn L s.tx.records := by
    simp [flyingOn, List.countP_pos_iff]
  rw [takeLaneDown_live, abandonInFlight_live, abandonInFlight_tx hfly, hpending, countP_live]
  simp only [true_and]
  by_cases hin : ∃ r ∈ s.tx.records, r.copies.get L = .inFlight
  · rw [if_pos hin, oneMore_toNat]
    have := hcount.mp hin
    omega
  · rw [if_neg hin]
    have := mt hcount.mpr hin
    omega

end

theorem exec_laneFaultAssert_rises (L : Lane) (s : State) (h : s.pins.faultLines.get L = false) :
    exec (.laneFaultAssert L) s =
      .next (settle (if ((abandonInFlight L (setFaultLine L true s)).lanes.get L).state = .up
        then takeLaneDown L (abandonInFlight L (setFaultLine L true s)) else abandonInFlight L (setFaultLine L true s))) := by
  show execLaneFaultAssert L s = _
  rw [execLaneFaultAssert, if_neg (by simp [h])]

section
variable {L : Lane} {s : State} (hq : QueueSound s)
include hq

/-- On an UP lane every live copy of the lane is ABANDONED (R46, R91). -/
theorem settle_laneLost :
    settle (takeLaneDown L (abandonInFlight L (setFaultLine L true s))) =
      askFailed^[s.tx.records.countP (askDiesOn L)] ((takeLaneDown L (abandonInFlight L (setFaultLine L true s))).setTx
        { s.tx with records := (s.tx.records.map (dropLive L)).filter fun r => (r.copies.get L.other).live }) := by
  have htx : (takeLaneDown L (abandonInFlight L (setFaultLine L true s))).tx = { s.tx with records := s.tx.records.map (dropLive L) } := by
    rw [takeLaneDown_tx, abandonInFlight_tx (s := setFaultLine L true s) (hq.flying L), List.map_map,
      show dropPending L ∘ dropFlying L = dropLive L from funext (dropPending_dropFlying L)]
    rfl
  have hgone : List.Forall₂ (CopyGone L) s.tx.records (s.tx.records.map (dropLive L)) :=
    List.forall₂_map_right_iff.mpr (List.forall₂_same.mpr fun q _ => dropLive_gone L q)
  rw [settle_copyGone hgone (List.all_eq_true.mp hq.live) _ (by rw [htx]), htx]

/-- On a DOWN lane a live copy is a PRESENCE's (R83): the one in flight is ABANDONED, and no ask fails. -/
theorem settle_probeLost (hdown : (s.lanes.get L).state = .down) :
    settle (abandonInFlight L (setFaultLine L true s)) = (abandonInFlight L (setFaultLine L true s)).setTx
      { s.tx with records := (s.tx.records.map (dropFlying L)).filter TxRecord.live } := by
  have htx : (abandonInFlight L (setFaultLine L true s)).tx = { s.tx with records := s.tx.records.map (dropFlying L) } :=
    abandonInFlight_tx (hq.flying L)
  have hreports : ((s.tx.records.map (dropFlying L)).filter fun r => !r.live).countP TxRecord.unsentAsk = 0 := by
    rw [List.countP_eq_zero]
    intro q' hq' hask
    obtain ⟨hmem, hdead⟩ := List.mem_filter.mp hq'
    obtain ⟨q, hqmem, rfl⟩ := List.mem_map.mp hmem
    by_cases hfly : q.copies.get L = .inFlight
    · have hsound := List.all_eq_true.mp (hq.copies L) q hqmem
      rw [hdown, hfly] at hsound
      have hpresence : q.payload.isPresence = true := by
        simp only [copySound, CopyState.live, Bool.and_eq_true] at hsound
        simpa using hsound.2
      rw [dropFlying, if_pos hfly] at hask
      cases hp : q.payload <;> simp_all [TxRecord.unsentAsk, TxRecord.setCopy, Payload.isPresence, Payload.isAsk]
    · rw [dropFlying, if_neg hfly] at hdead
      simp [List.all_eq_true.mp hq.live q hqmem] at hdead
  rw [settle_eq, htx, hreports]
  rfl

/-- A DISABLED lane has no live copy (R83). -/
theorem disabled_idle (h : (s.lanes.get L).state = .disabled) : ∀ q ∈ s.tx.records, q.copies.get L ≠ .inFlight := by
  intro q hmem hfly
  have hsound := List.all_eq_true.mp (hq.copies L) q hmem
  simp [copySound, h, hfly, CopyState.live] at hsound

end

/-- Settles O31: by the lane's state, with `settle_laneLost`, `settle_probeLost` and `disabled_idle`. -/
theorem faultLineTakesTheLaneDown : Obligations.FaultLineTakesTheLaneDown := by
  unfold Obligations.FaultLineTakesTheLaneDown
  intro L s hq hclear
  have hlanes : (abandonInFlight L (setFaultLine L true s)).lanes = s.lanes := by simp [setFaultLine]
  have hexec := exec_laneFaultAssert_rises L s hclear
  rw [hlanes] at hexec
  refine ⟨fun hup => ?_, fun hdown => ?_, fun hdisabled => ?_⟩
  · rw [if_pos hup, settle_laneLost hq] at hexec
    refine ⟨_, hexec, ?_, ?_, ?_, rfl, ?_, fun i hi => ?_, ?_⟩
    · simp [setFaultLine]
    · rw [State.setTx_lanes, takeLaneDown_lanes, hlanes]
    · rw [State.setTx_events, takeLaneDown_laneDown, abandonInFlight_laneDown]
      rfl
    · rw [State.setTx_counters]
      exact takeLaneDown_abandonInFlight_live (hq.flying L)
    · rw [State.setTx_counters, takeLaneDown_live_other _ _ _ hi, abandonInFlight_live, if_neg fun h => hi h.1]
      rfl
    · apply State.eq_of_fields <;> simp [setFaultLine]
  · rw [if_neg (by simp [hdown]), settle_probeLost hq hdown] at hexec
    refine ⟨_, hexec, ?_, ?_, rfl, fun i => ?_, ?_⟩
    · simp [setFaultLine]
    · rw [State.setTx_events, abandonInFlight_laneDown]
      rfl
    · rw [State.setTx_counters]
      exact abandonInFlight_live i
    · apply State.eq_of_fields <;> simp [setFaultLine]
  · have hnone := disabled_idle hq hdisabled
    have hidle : abandonInFlight L (setFaultLine L true s) = setFaultLine L true s := abandonInFlight_idle hnone
    have hsettle : settle (setFaultLine L true s) = setFaultLine L true s := settle_live _ (List.all_eq_true.mp hq.live)
    rw [if_neg (by simp [hdisabled]), hidle, hsettle] at hexec
    exact hexec

end Sys2Proof.Machine
end

section
/-! The node's own copy taken back: O23. -/

namespace Sys2Proof.Machine

open Sys2Proof

theorem exec_ownFrame (L : Lane) (bytes : List Byte) (f : Frame) (s : State) (htaken : laneReceives L s = true)
    (hgood : classify bytes = .good f) (hown : isOwn L bytes s = true) : exec (.frameReceived L bytes) s = .next (completeCopy L s) := by
  simp only [exec, execFrameReceived, htaken, if_true, hgood, hown]

theorem laneReceives_enabled (L : Lane) (s : State) (h : laneReceives L s = true) : (s.lanes.get L).state ≠ .disabled := by
  intro hd
  simp [laneReceives, hd] at h

theorem bringLaneUp_tx (L : Lane) (s : State) : (bringLaneUp L s).tx = s.tx := by simp

theorem bringLaneUp_live (L : Lane) (s : State) (i : Fin 28) : (bringLaneUp L s).counters.live[i] = s.counters.live[i] := by simp

/-- A DOWN lane that comes UP raises LANE_UP (R47). -/
theorem bringLaneUp_laneUp (L : Lane) (s : State) :
    (bringLaneUp L s).events.records.laneUp =
      if (s.lanes.get L).state = .down then andLane s.events.records.laneUp L else s.events.records.laneUp := by
  unfold bringLaneUp
  dsimp only
  split <;> rfl

theorem countLane_laneUp (L : Lane) (c : LaneCounter) (s : State) :
    (countLane L c s).events.records.laneUp = s.events.records.laneUp := by
  rw [countLane, countAt_events]

/-- The node with the copy SENT and counted, its lane UP with abandon count 0: the asker and the queue still to hear of it (R38, R89). -/
def copySent (L : Lane) (older younger : List TxRecord) (r : TxRecord) (s : State) : State :=
  putLane L { state := .up, abandons := 0 }
    (countLane L .txSent ((bringLaneUp L s).setTx { s.tx with records := older ++ r.setCopy L .sent :: younger }))

section
variable {L : Lane} {s : State} {older younger : List TxRecord} {r : TxRecord}

theorem copySent_lanes (h : (s.lanes.get L).state ≠ .disabled) :
    (copySent L older younger r s).lanes = s.lanes.put L { state := .up, abandons := 0 } := by
  unfold copySent putLane
  cases L <;> simp [bringLaneUp_lane _ _ h, PerLane.put]

theorem copySent_live (i : Fin 28) :
    (copySent L older younger r s).counters.live[i] =
      if i = laneIndex L .txSent then oneMore s.counters.live[i] else s.counters.live[i] := by
  rw [copySent, putLane, State.setLanes_counters, countLane_live, State.setTx_counters, bringLaneUp_live]

theorem copySent_laneUp :
    (copySent L older younger r s).events.records.laneUp =
      if (s.lanes.get L).state = .down then andLane s.events.records.laneUp L else s.events.records.laneUp := by
  rw [copySent, putLane, State.setLanes_events, countLane_laneUp, State.setTx_events, bringLaneUp_laneUp]

/-- The first SENT copy of a SYNC_ASK is reported to the asker (R102). -/
def reportSent (L : Lane) (r : TxRecord) (s : State) : State :=
  if r.payload.isAsk && r.copies.get L.other != .sent then askSent s else s

@[simp] theorem reportSent_frame (s : State) :
    (reportSent L r s).lanes = s.lanes ∧ (reportSent L r s).counters = s.counters ∧ (reportSent L r s).events = s.events ∧
    (reportSent L r s).tx = s.tx ∧ reportSent L r s = s.setCatchUp (reportSent L r s).catchUp := by
  unfold reportSent askSent
  split
  · split <;> exact ⟨rfl, rfl, rfl, rfl, rfl⟩
  · exact ⟨rfl, rfl, rfl, rfl, rfl⟩

/-- The copy in flight taken back: SENT, its record gone once at rest, and never as a failed ask (R93, R94). -/
theorem completeCopy_eq (hq : QueueSound s) (h : s.tx.records = older ++ r :: younger) (hr : r.copies.get L = .inFlight)
    (hlane : (s.lanes.get L).state ≠ .disabled) :
    completeCopy L s = (reportSent L r (copySent L older younger r s)).setTx
      { s.tx with records := older ++ (if (r.copies.get L.other).live then [r.setCopy L .sent] else []) ++ younger } := by
  have hold := flyingOn_alone L older younger r (h ▸ hq.flying L) hr
  have hchange := changeInFlight_records L (fun r => r.setCopy L .sent) (bringLaneUp L s) older younger r (by rw [bringLaneUp_tx, h]) hold hr
  have hput : putLane L { (countLane L .txSent (changeInFlight L (fun r => r.setCopy L .sent) (bringLaneUp L s))).lanes.get L with abandons := 0 }
      (countLane L .txSent (changeInFlight L (fun r => r.setCopy L .sent) (bringLaneUp L s))) = copySent L older younger r s := by
    rw [hchange, bringLaneUp_tx]
    simp [copySent, bringLaneUp_lane L s hlane]
  have hbeside : ∀ q ∈ older ++ younger, q.live = true := fun q hmem => by
    refine List.all_eq_true.mp hq.live q (h ▸ ?_)
    rcases List.mem_append.mp hmem with hmem | hmem
    · exact List.mem_append_left _ hmem
    · exact List.mem_append_right _ (List.mem_cons_of_mem r hmem)
  have hlive : (r.setCopy L .sent).live = (r.copies.get L.other).live := by
    rw [live_iff _ L]
    simp [TxRecord.setCopy, CopyState.live]
  have hasked : (r.setCopy L .sent).unsentAsk = false := by
    rw [unsentAsk_iff _ L]
    simp [TxRecord.setCopy]
  have htx : (reportSent L r (copySent L older younger r s)).tx = { s.tx with records := older ++ r.setCopy L .sent :: younger } := by
    rw [(reportSent_frame _).2.2.2.1]
    simp [copySent, putLane]
  unfold completeCopy
  rw [h, inFlightOn_first L older younger r hold hr]
  dsimp only
  rw [hput]
  show settle (reportSent L r (copySent L older younger r s)) = _
  rw [settle_beside _ older younger (r.setCopy L .sent) (by rw [htx]) hbeside, hlive, hasked, htx, Bool.and_false]
  rfl

end

/-- Settles O23: `completeCopy_eq`, the asker's share by cases of `reportSent`. -/
theorem ownFrameCompletesItsCopy : Obligations.OwnFrameCompletesItsCopy := by
  unfold Obligations.OwnFrameCompletesItsCopy
  intro L bytes f r s htaken hgood hown hin hq
  obtain ⟨older, younger, h, _, hr⟩ := split_first _ _ r hin
  have hr : r.copies.get L = .inFlight := by simpa using hr
  have hlane := laneReceives_enabled L s htaken
  have hcatchUp : (copySent L older younger r s).catchUp = s.catchUp := by simp [copySent, putLane]
  obtain ⟨hlanes, hcounters, hevents, _, hrest⟩ := reportSent_frame (L := L) (r := r) (copySent L older younger r s)
  refine ⟨_, exec_ownFrame L bytes f s htaken hgood hown, ?_⟩
  rw [completeCopy_eq hq h hr hlane]
  refine ⟨?_, ?_, fun i => ?_, ?_, rfl, ⟨older, younger, h, rfl⟩, fun ha ho hk => ?_, fun ha hk => ?_, fun ha => ?_, ?_⟩
  · rw [State.setTx_lanes, hlanes, copySent_lanes hlane, PerLane.put_get]
  · rw [State.setTx_lanes, hlanes, copySent_lanes hlane, PerLane.put_get_other]
  · rw [State.setTx_counters, hcounters, copySent_live]
  · rw [State.setTx_events, hevents, copySent_laneUp]
  · rw [State.setTx_catchUp, reportSent, if_pos (by simp [ha, ho]), askSent, if_pos (hcatchUp ▸ hk), State.setCatchUp_catchUp, hcatchUp]
    rfl
  · rw [State.setTx_catchUp]
    rcases hk with hk | hk
    · rw [reportSent, if_neg (by simp [hk]), hcatchUp]
    · have hask : askSent (copySent L older younger r s) = copySent L older younger r s := if_neg (hcatchUp ▸ hk)
      rw [reportSent, hask, ite_self, hcatchUp]
  · rw [State.setTx_catchUp, reportSent, if_neg (by simp [ha]), hcatchUp]
  · generalize (reportSent L r (copySent L older younger r s)).catchUp = unit at hrest
    rw [hrest]
    apply State.eq_of_fields <;> simp [copySent, putLane]

end Sys2Proof.Machine
end

section
/-! Transactions, lines and the bytes of the Local Port: O53. -/

namespace Sys2Proof.Machine

open Sys2Proof

/-! ## Lines -/

theorem exec_chipSelectAssert_takes (s : State) (hport : s.port = .closed) (hfree : s.node.loading ≠ .held) :
    exec .chipSelectAssert s = .next (s.setPort .opened) := if_pos ⟨hport, hfree⟩

theorem exec_chipSelectAssert_held (s : State) (hheld : s.node.loading = .held) : exec .chipSelectAssert s = .next s :=
  if_neg fun h => h.2 hheld

theorem exec_chipSelectRelease_opened (s : State) (h : s.port = .opened) : exec .chipSelectRelease s = .next (s.setPort .closed) := by
  show execChipSelectRelease s = _
  rw [execChipSelectRelease, h]

theorem exec_chipSelectRelease_answered (s : State) (result : List Byte) (h : s.port = .answered result false) :
    exec .chipSelectRelease s = .next (s.setPort .closed) := by
  show execChipSelectRelease s = _
  rw [execChipSelectRelease, h]

/-! ## Bytes of a transaction -/

section
variable {s : State} {shiftedIn : List Byte}

/-- Until the request has come in, the part shifts out 0x00 (R183). -/
theorem byteOut_opened (h : s.port = .opened) : byteOut { shiftedIn, node := s } = 0 := by
  simp [byteOut, h]

theorem clockByte_opened (b : Byte) (h : s.port = .opened) :
    clockByte b { shiftedIn, node := s } = (0, { shiftedIn := shiftedIn ++ [b], node := nodeAfterByte (shiftedIn ++ [b]) s }) := by
  rw [clockByte, byteOut_opened h]

theorem nodeAfterByte_unread (h : s.port = .opened) (hr : readRequest shiftedIn = none) : nodeAfterByte shiftedIn s = s := by
  simp [nodeAfterByte, h, hr]

theorem nodeAfterByte_read (c : Instr) (h : s.port = .opened) (hr : readRequest shiftedIn = some c) :
    nodeAfterByte shiftedIn s = stateAfter c s := by
  simp [nodeAfterByte, h, hr]

theorem nodeAfterByte_answered (result : List Byte) (restarting : Bool) (h : s.port = .answered result restarting) :
    nodeAfterByte shiftedIn s = s := by
  simp [nodeAfterByte, h]

theorem stateAfter_of_exec {c : Instr} {t : State} (h : exec c s = .next t) : stateAfter c s = t := by
  simp [stateAfter, h]

end

section
variable {c : Instr} {s : State} (hport : s.port = .opened)
include hport

/-- A request that is not complete has no effect (R183, R185). -/
theorem clockBytes_incomplete (n : Nat) (hn : n < (requestBytes c).length) :
    clockBytes ((requestBytes c).take n) { shiftedIn := [], node := s } =
      (List.replicate n 0, { shiftedIn := (requestBytes c).take n, node := s }) := by
  induction n with
  | zero => rfl
  | succ n ih =>
    have hsplit : (requestBytes c).take (n + 1) = (requestBytes c).take n ++ [(requestBytes c)[n]] :=
      List.take_succ_eq_append_getElem (by omega)
    have hunread := readRequest_take c (n + 1) hn
    rw [hsplit, clockBytes_append, ih (by omega)]
    simp only [clockBytes, clockByte_opened _ hport, ← hsplit, nodeAfterByte_unread hport hunread, List.replicate_succ']

/-- The request takes effect with its last byte (R183). -/
theorem clockBytes_complete (hc : requestBytes c ≠ []) (hw : c.wellFormed = true) :
    clockBytes (requestBytes c) { shiftedIn := [], node := s } =
      (List.replicate (requestBytes c).length 0, { shiftedIn := requestBytes c, node := stateAfter c s }) := by
  have hlast : requestBytes c = (requestBytes c).take ((requestBytes c).length - 1) ++ [(requestBytes c).getLast hc] := by
    rw [← List.dropLast_eq_take, List.dropLast_append_getLast]
  have hpos : 0 < (requestBytes c).length := List.length_pos_iff.mpr hc
  have hread : readRequest (requestBytes c) = some c := by simpa using readRequest_requestBytes c [] hc hw
  conv_lhs => rw [hlast]
  rw [clockBytes_append, clockBytes_incomplete hport _ (by omega)]
  simp only [clockBytes, clockByte_opened _ hport, ← hlast, nodeAfterByte_read c hport hread, ← List.replicate_succ']
  rw [Nat.sub_add_cancel hpos]

end

/-- After its result code and bytes the part shifts out 0x00, whatever is shifted in (R183). -/
theorem clockBytes_answered {c : Instr} {t : State} {result : List Byte} {restarting : Bool} (hport : t.port = .answered result restarting)
    (hc : requestBytes c ≠ []) (hw : c.wellFormed = true) (past more : List Byte) :
    clockBytes more { shiftedIn := requestBytes c ++ past, node := t } =
      ((List.range more.length).map (fun i => result.getD (past.length + i) 0), { shiftedIn := requestBytes c ++ past ++ more, node := t }) := by
  induction more generalizing past with
  | nil => simp [clockBytes]
  | cons b more ih =>
    have hbyte : clockByte b { shiftedIn := requestBytes c ++ past, node := t } =
        (result.getD past.length 0, { shiftedIn := requestBytes c ++ (past ++ [b]), node := t }) := by
      simp [clockByte, byteOut, hport, readRequest_requestBytes c past hc hw, nodeAfterByte_answered result restarting hport]
    rw [clockBytes, hbyte]
    dsimp only
    rw [ih, List.length_cons, List.range_succ_eq_map]
    simp [Function.comp_def, Nat.add_assoc, Nat.add_comm 1]

/-- Settles O53: the lines by their cases, the bytes by `clockBytes_complete`, `clockBytes_answered` and `clockBytes_incomplete`. -/
theorem transactionsAndLinesOnlyMove : Obligations.TransactionsAndLinesOnlyMove := by
  unfold Obligations.TransactionsAndLinesOnlyMove
  refine ⟨fun s => ⟨exec_chipSelectAssert_takes s, fun _ => exec_chipSelectAssert_held s, exec_chipSelectRelease_opened s,
    exec_chipSelectRelease_answered s⟩, fun s => ⟨fun _ => rfl, fun _ => rfl⟩, fun c s hc hw hport => ⟨?_, fun n => clockBytes_incomplete hport n⟩,
    fun b k hk => by simp [shiftedBits, hk]⟩
  obtain ⟨t, result, restarting, hexec, hanswer⟩ := exec_request_answers c s hc hw hport
  refine ⟨t, result, restarting, hexec, hanswer, fun more => ?_⟩
  have hmore := clockBytes_answered hanswer hc hw [] more
  simp only [List.append_nil, List.length_nil, Nat.zero_add] at hmore
  rw [clockBytes_append, clockBytes_complete hport hc hw, stateAfter_of_exec hexec]
  dsimp only
  rw [hmore]

end Sys2Proof.Machine
end

section
/-! Frames as bytes and bytes as frames: O17, O18 and O19. -/

namespace Sys2Proof.Machine

open Sys2Proof

/-! ## Bytes of a payload -/

/-- A number is read from the byte that spells it, and from no other. -/
theorem below_iff {n : Nat} (hn : n ≤ 256) {b : Byte} {x : Fin n} : below n b = some x ↔ byteOf x.val = b := by
  have hx : x.val % 256 = x.val := Nat.mod_eq_of_lt (by omega)
  rw [below_eq_some, byteOf, ← BitVec.toNat_inj, BitVec.toNat_ofNat]
  show _ ↔ x.val % 256 = b.toNat
  rw [hx]

theorem parsePhase_iff {b : Byte} {phase : AnnouncedPhase} : parsePhase b = some phase ↔ phase.code = b := by
  revert b
  cases phase <;> decide +kernel

theorem parseSource_iff {b : Byte} {source : Source} : parseSource b = some source ↔ source.code = b := by
  unfold parseSource
  cases source with
  | set =>
    split
    · next h => simp [h, Source.code]
    · next h => simpa [Source.code] using fun he => h he.symm
  | _ =>
    next look =>
      have hsource : below 16 b = some look ↔ byteOf look.val = b := below_iff (by decide)
      split
      · next h =>
        have hlook : ∀ look : Look, byteOf look.val ≠ 0xFF#8 := by decide
        simpa [Source.code, h] using hlook look
      · simpa [Source.code] using hsource

/-- The flags byte of a PRESENCE (R28). -/
theorem presenceFlags_iff {flags : Byte} {incomplete singleLane : Bool} :
    (flags &&& 0xFC#8 = 0 ∧ flags.getLsbD 0 = incomplete ∧ flags.getLsbD 1 = singleLane) ↔
      bitAt 0 incomplete ||| bitAt 1 singleLane = flags := by
  revert flags
  cases incomplete <;> cases singleLane <;> decide +kernel

/-- The options byte of a RECALL (R30). -/
theorem recallOptions_iff {options : Byte} {wake : Bool} :
    (options &&& 0xFE#8 = 0 ∧ options.getLsbD 0 = wake) ↔ bitAt 0 wake = options := by
  revert options
  cases wake <;> decide +kernel

/-- The options byte of a SET (R29). -/
theorem setOptions_iff {options : Byte} {fade : FadeCode} {wake : Bool} :
    (below 16 (options &&& 0x0F#8) = some fade ∧ options &&& 0xE0#8 = 0 ∧ options.getLsbD 4 = wake) ↔
      byteOf fade.val ||| bitAt 4 wake = options := by
  have hread : ∀ o : Byte, o &&& 0xE0#8 = 0 → byteOf (o.toNat % 16) ||| bitAt 4 (o.getLsbD 4) = o := by decide +kernel
  constructor
  · rintro ⟨hfade, hclear, rfl⟩
    rw [fade_bits, Option.some.injEq] at hfade
    rw [← hfade]
    exact hread options hclear
  · rintro rfl
    obtain ⟨hclear, hfade, hwake⟩ := fade_options fade wake
    refine ⟨?_, hclear, hwake⟩
    rw [fade_bits, Option.some.injEq]
    exact Fin.ext hfade

theorem join16_iff {hi lo : Byte} {w : Word16} : join16 hi lo = w ↔ split16 w = [hi, lo] := by
  constructor
  · rintro rfl
    exact split16_join16 hi lo
  · intro h
    simp only [split16, List.cons.injEq, and_true] at h
    rw [← h.1, ← h.2, join16_split16]

theorem join32_iff {b3 b2 b1 b0 : Byte} {w : Word32} : join32 b3 b2 b1 b0 = w ↔ split32 w = [b3, b2, b1, b0] := by
  constructor
  · rintro rfl
    exact split32_join32 b3 b2 b1 b0
  · intro h
    simp only [split32, List.cons.injEq, and_true] at h
    obtain ⟨h3, h2, h1, h0⟩ := h
    rw [← h3, ← h2, ← h1, ← h0, join32_split32]

/-! ## Entries -/

theorem SyncEntry.bytes_length (e : SyncEntry) : e.bytes.length = 12 := rfl

theorem parseEntry_bytes (e : SyncEntry) : parseEntry e.bytes = some e := by
  obtain ⟨zone, ⟨colour, level, fade, stamp, origin, source⟩⟩ := e
  have hzone : below 32 (byteOf zone.val) = some zone := (below_iff (by decide)).mpr rfl
  have hfade : below 16 (byteOf fade.val) = some fade := (below_iff (by decide)).mpr rfl
  have horigin : below 32 (byteOf origin.val) = some origin := (below_iff (by decide)).mpr rfl
  have hsource : parseSource source.code = some source := parseSource_iff.mpr rfl
  simp [SyncEntry.bytes, split32, parseEntry, hzone, hfade, horigin, hsource, join32_split32]

/-- An entry is read from the bytes that spell it, and from no others (R33). -/
theorem parseEntry_iff {l : List Byte} {e : SyncEntry} : parseEntry l = some e ↔ e.bytes = l := by
  refine ⟨fun h => ?_, fun h => h ▸ parseEntry_bytes e⟩
  unfold parseEntry at h
  split at h
  · next z r g b level fade s3 s2 s1 s0 origin source =>
    simp only [Option.bind_eq_bind, Option.bind_eq_some_iff, Option.pure_def, Option.some.injEq] at h
    obtain ⟨zone, hzone, fade', hfade, origin', horigin, source', hsource, rfl⟩ := h
    rw [below_iff (by decide)] at hzone hfade horigin
    rw [parseSource_iff] at hsource
    simp [SyncEntry.bytes, split32_join32, hzone, hfade, horigin, hsource]
  · cases h

theorem flatMap_bytes_length (entries : List SyncEntry) : (entries.flatMap SyncEntry.bytes).length = 12 * entries.length := by
  induction entries with
  | nil => rfl
  | cons e entries ih =>
    rw [List.flatMap_cons, List.length_append, ih, SyncEntry.bytes_length, List.length_cons]
    omega

theorem parseEntries_iff {n : Nat} {l : List Byte} {entries : List SyncEntry} :
    parseEntries n l = some entries ↔ entries.length = n ∧ entries.flatMap SyncEntry.bytes = l := by
  induction n generalizing l entries with
  | zero =>
    cases entries <;> cases l <;> simp [parseEntries]
  | succ n ih =>
    simp only [parseEntries, Option.bind_eq_bind, Option.bind_eq_some_iff, Option.pure_def, Option.some.injEq, parseEntry_iff, ih]
    constructor
    · rintro ⟨e, he, rest, ⟨rfl, hrest⟩, rfl⟩
      exact ⟨rfl, by rw [List.flatMap_cons, he, hrest, List.take_append_drop]⟩
    · rintro ⟨hlen, rfl⟩
      obtain ⟨e, rest, rfl⟩ := List.exists_cons_of_length_eq_add_one hlen
      refine ⟨e, ?_, rest, ⟨by simpa using hlen, ?_⟩, rfl⟩
      · rw [List.flatMap_cons, List.take_left' e.bytes_length]
      · rw [List.flatMap_cons, List.drop_left' e.bytes_length]

/-! ## Payloads -/

/-- What R31 to R33 ask of a payload beside its length: zone sets are not empty, and a SYNC_ENTRY has an entry. -/
def Payload.spelled : Payload → Prop
  | .occupy zones => zones ≠ 0
  | .syncAsk wanted => wanted ≠ 0
  | .syncEntry entries => entries ≠ []
  | .presence _ _ _ _ | .set _ _ _ _ _ | .recall _ _ _ => True

theorem parsePayload_recall (look : Look) (checksum : Word16) (wake : Bool) :
    parsePayload (Payload.recall look checksum wake).kind (Payload.recall look checksum wake).bytes = some (.recall look checksum wake) := by
  obtain ⟨hclear, hwake⟩ := recallOptions_iff.mpr (rfl : bitAt 0 wake = _)
  have hlook : below 16 (byteOf look.val) = some look := (below_iff (by decide)).mpr rfl
  simp [Payload.kind, Payload.bytes, split16, parsePayload, hlook, hclear, hwake, join16_split16, -BitVec.getLsbD_eq_getElem]

theorem parsePayload_bytes (p : Payload) (h : p.spelled) : parsePayload p.kind p.bytes = some p := by
  cases p with
  | presence checksum phase incomplete singleLane =>
    obtain ⟨hclear, hi, hs⟩ := presenceFlags_iff.mpr (rfl : bitAt 0 incomplete ||| bitAt 1 singleLane = _)
    simp [Payload.kind, Payload.bytes, split16, parsePayload, parsePhase_iff.mpr rfl, hclear, hi, hs, join16_split16, -BitVec.getLsbD_eq_getElem]
  | set zone colour level fade wake =>
    obtain ⟨hfade, hclear, hwake⟩ := setOptions_iff.mpr (rfl : byteOf fade.val ||| bitAt 4 wake = _)
    have hzone : below 32 (byteOf zone.val) = some zone := (below_iff (by decide)).mpr rfl
    simp [Payload.kind, Payload.bytes, parsePayload, hzone, hfade, hclear, hwake, -BitVec.getLsbD_eq_getElem]
  | occupy zones =>
    have hne : zones ≠ 0 := h
    simpa [Payload.kind, Payload.bytes, split32, parsePayload, join32_split32] using hne
  | syncAsk wanted =>
    have hne : wanted ≠ 0 := h
    simpa [Payload.kind, Payload.bytes, split32, parsePayload, join32_split32] using hne
  | syncEntry entries =>
    have hne : entries ≠ [] := h
    have hread : parseEntries entries.length (entries.flatMap SyncEntry.bytes) = some entries := parseEntries_iff.mpr ⟨rfl, rfl⟩
    have hpos : entries.length ≠ 0 := by simpa using hne
    simp only [Payload.kind, Payload.bytes, parsePayload, flatMap_bytes_length]
    rw [if_neg (by omega), Nat.mul_div_cancel_left _ (by decide), hread]
    rfl
  | _ => exact parsePayload_recall _ _ _

/-- What is read as a payload spells that payload: no bit of it is passed over (R28 to R33). -/
theorem parsePayload_spells {kind : Nat} {l : List Byte} {p : Payload} (h : parsePayload kind l = some p) :
    p.kind = kind ∧ p.bytes = l ∧ p.spelled := by
  unfold parsePayload at h
  split at h
  · next c1 c0 phase flags =>
    simp only [Option.bind_eq_bind, Option.bind_eq_some_iff] at h
    obtain ⟨phase', hphase, h⟩ := h
    split at h
    · next hclear =>
      obtain rfl := Option.some.inj h
      have hflags := presenceFlags_iff.mp ⟨hclear, rfl, rfl⟩
      exact ⟨rfl, by simp [Payload.bytes, split16_join16, parsePhase_iff.mp hphase, hflags, -BitVec.getLsbD_eq_getElem], trivial⟩
    · cases h
  · next z r g b level options =>
    simp only [Option.bind_eq_bind, Option.bind_eq_some_iff] at h
    obtain ⟨zone, hzone, fade, hfade, h⟩ := h
    split at h
    · next hclear =>
      obtain rfl := Option.some.inj h
      have hoptions := setOptions_iff.mp ⟨hfade, hclear, rfl⟩
      rw [below_iff (by decide)] at hzone
      exact ⟨rfl, by simp [Payload.bytes, hzone, hoptions, -BitVec.getLsbD_eq_getElem], trivial⟩
    · cases h
  · next k c1 c0 options =>
    simp only [Option.bind_eq_bind, Option.bind_eq_some_iff] at h
    obtain ⟨look, hlook, h⟩ := h
    split at h
    · next hclear =>
      obtain rfl := Option.some.inj h
      have hoptions := recallOptions_iff.mp ⟨hclear, rfl⟩
      rw [below_iff (by decide)] at hlook
      exact ⟨rfl, by simp [Payload.bytes, split16_join16, hlook, hoptions, -BitVec.getLsbD_eq_getElem], trivial⟩
    · cases h
  · split at h
    · cases h
    · next hne =>
      obtain rfl := Option.some.inj h
      exact ⟨rfl, split32_join32 _ _ _ _, hne⟩
  · split at h
    · cases h
    · next hne =>
      obtain rfl := Option.some.inj h
      exact ⟨rfl, split32_join32 _ _ _ _, hne⟩
  · split at h
    · cases h
    · next hsize =>
      obtain ⟨entries, hentries, rfl⟩ := Option.map_eq_some_iff.mp h
      obtain ⟨hlen, hbytes⟩ := parseEntries_iff.mp hentries
      refine ⟨rfl, hbytes, fun hnil => ?_⟩
      rw [hnil, List.length_nil] at hlen
      omega
  · cases h

/-- A payload the part sends is at most 48 bytes long (R31 to R33). -/
theorem bytes_length_of_sendable (p : Payload) (h : p.sendable) : p.bytes.length ≤ 48 := by
  cases p with
  | syncEntry entries =>
    have hfew : entries.length ≤ 4 := h.2
    rw [Payload.bytes, flatMap_bytes_length]
    omega
  | _ => simp [Payload.bytes]

theorem sendable_iff (p : Payload) : p.sendable ↔ p.spelled ∧ p.bytes.length ≤ 48 := by
  refine ⟨fun h => ⟨?_, bytes_length_of_sendable p h⟩, fun ⟨h, hlen⟩ => ?_⟩
  · cases p with
    | syncEntry entries => exact List.ne_nil_of_length_pos h.1
    | _ => exact h
  · cases p with
    | syncEntry entries =>
      rw [Payload.bytes, flatMap_bytes_length] at hlen
      exact ⟨List.length_pos_iff.mpr h, by omega⟩
    | _ => exact h

/-! ## Header and payload -/

/-- Header byte 0: the kind in its high half, the class in bit 3, and bits 0 to 2 clear (R26, R27). -/
def kindByte (p : Payload) : Byte := byteOf (p.kind * 16) ||| bitAt 3 p.urgent

/-- Header byte 1: the lane tag in bit 7, the origin in bits 0 to 4, and bits 5 and 6 clear (R26). -/
def originByte (f : Frame) : Byte := Lane.tag f.laneTag ||| byteOf f.origin.val

theorem kind_range (p : Payload) : 1 ≤ p.kind ∧ p.kind ≤ 6 := by cases p <;> simp [Payload.kind]

theorem kindByte_fields (p : Payload) :
    (kindByte p).toNat / 16 = p.kind ∧ kindByte p &&& 0x07#8 = 0 ∧ (kindByte p).getLsbD 3 = urgentKind p.kind := by
  have hfields : ∀ kind : Fin 7, (byteOf (kind.val * 16) ||| bitAt 3 (urgentKind kind.val)).toNat / 16 = kind.val ∧
      (byteOf (kind.val * 16) ||| bitAt 3 (urgentKind kind.val)) &&& 0x07#8 = 0 ∧
      (byteOf (kind.val * 16) ||| bitAt 3 (urgentKind kind.val)).getLsbD 3 = urgentKind kind.val := by decide
  exact hfields ⟨p.kind, Nat.lt_succ_of_le (kind_range p).2⟩

theorem kindByte_of_fields (k : Byte) (p : Payload) (hkind : p.kind = k.toNat / 16) (hclear : k &&& 0x07#8 = 0)
    (hurgent : k.getLsbD 3 = urgentKind (k.toNat / 16)) : kindByte p = k := by
  have hread : ∀ k : Byte, k &&& 0x07#8 = 0 → byteOf (k.toNat / 16 * 16) ||| bitAt 3 (k.getLsbD 3) = k := by decide +kernel
  rw [kindByte, Payload.urgent, hkind, ← hurgent]
  exact hread k hclear

theorem originByte_fields (f : Frame) :
    originByte f &&& 0x60#8 = 0 ∧ (originByte f).toNat % 32 = f.origin.val ∧
      (if (originByte f).getLsbD 7 then Lane.B else Lane.A) = f.laneTag := by
  have hfields : ∀ origin : Station,
      ((Lane.tag .A ||| byteOf origin.val) &&& 0x60#8 = 0 ∧ (Lane.tag .A ||| byteOf origin.val).toNat % 32 = origin.val ∧
        (Lane.tag .A ||| byteOf origin.val).getLsbD 7 = false) ∧
      ((Lane.tag .B ||| byteOf origin.val) &&& 0x60#8 = 0 ∧ (Lane.tag .B ||| byteOf origin.val).toNat % 32 = origin.val ∧
        (Lane.tag .B ||| byteOf origin.val).getLsbD 7 = true) := by decide
  obtain ⟨⟨hclearA, horiginA, htagA⟩, hclearB, horiginB, htagB⟩ := hfields f.origin
  unfold originByte
  cases f.laneTag
  · exact ⟨hclearA, horiginA, by rw [htagA]; rfl⟩
  · exact ⟨hclearB, horiginB, by rw [htagB]; rfl⟩

theorem originByte_of_fields (t : Byte) (hclear : t &&& 0x60#8 = 0) :
    Lane.tag (if t.getLsbD 7 then .B else .A) ||| byteOf (t.toNat % 32) = t := by
  revert t
  decide +kernel

theorem Frame.body_eq (f : Frame) :
    f.body = kindByte f.payload :: originByte f :: f.startTag :: (split16 f.sequence ++ split32 f.stamp ++
      byteOf f.payload.bytes.length :: f.payload.bytes) := by
  simp [Frame.body, kindByte, originByte]

theorem Frame.body_length (f : Frame) : f.body.length = f.payload.bytes.length + 10 := by
  simp [Frame.body_eq]
  omega

theorem parseBody_body (f : Frame) (h : f.payload.spelled) (hlen : f.payload.bytes.length ≤ 48) : parseBody f.body = some f := by
  obtain ⟨hkind, hclear, hurgent⟩ := kindByte_fields f.payload
  obtain ⟨hclear', horigin, htag⟩ := originByte_fields f
  obtain ⟨hlow, hhigh⟩ := kind_range f.payload
  have hsize : (byteOf f.payload.bytes.length).toNat = f.payload.bytes.length := by
    rw [byteOf, BitVec.toNat_ofNat]
    omega
  rw [Frame.body_eq]
  simp only [split16, split32, List.cons_append, List.nil_append, parseBody, hkind, htag, horigin]
  rw [if_neg (by simp [hsize]), if_neg (by omega), if_neg (by simp [hclear, hclear']), if_neg (by simp only [hurgent, ne_eq, not_true, not_false_iff]),
    parsePayload_bytes _ h, join16_split16, join32_split32]
  rfl

/-- What is read as a frame's header and payload spells that frame (R36). -/
theorem parseBody_spells {l : List Byte} {f : Frame} (h : parseBody l = some f) : f.body = l ∧ f.payload.spelled := by
  unfold parseBody at h
  split at h
  · next k t tag q1 q0 s3 s2 s1 s0 len payload =>
    dsimp only at h
    split at h
    · cases h
    next hlen =>
    split at h
    · cases h
    split at h
    · cases h
    next hclear =>
    split at h
    · cases h
    next hurgent =>
    obtain ⟨p, hp, rfl⟩ := Option.map_eq_some_iff.mp h
    obtain ⟨hkind, hbytes, hspelled⟩ := parsePayload_spells hp
    rw [not_or, not_not, not_not] at hclear
    have hk := kindByte_of_fields k p hkind hclear.1 (not_not.mp hurgent)
    have ht := originByte_of_fields t hclear.2
    have hsize : byteOf payload.length = len := by
      rw [← not_not.mp hlen]
      exact (BitVec.ofNat_toNat 8 len).trans (BitVec.setWidth_eq len)
    refine ⟨?_, hspelled⟩
    rw [Frame.body_eq]
    simp only [originByte, hk, ht, hbytes, hsize, split16_join16, split32_join32, List.cons_append, List.nil_append]
  · cases h

/-! ## Receive classes -/

theorem classify_runt (bytes : List Byte) (h : bytes.length < 12) : classify bytes = .runt := if_pos h

theorem classify_overlong (bytes : List Byte) (h : 60 < bytes.length) : classify bytes = .overlong :=
  (if_neg (by omega)).trans (if_pos h)

/-- Bytes with a CRC at their end, in the length R35 asks for. -/
theorem classify_append (body : List Byte) (crc : Word16) (hlow : 10 ≤ body.length) (hhigh : body.length ≤ 58) :
    classify (body ++ split16 crc) =
      if crc16 body = crc then (parseBody body).elim .malformed .good else .crcError := by
  have hlen : (body ++ split16 crc).length = body.length + 2 := by simp
  have htake : (body ++ split16 crc).take body.length = body := List.take_left' rfl
  have hdrop : (body ++ split16 crc).drop body.length = split16 crc := List.drop_left' rfl
  have hsplit : split16 (crc16 body) = split16 crc ↔ crc16 body = crc := by
    refine ⟨fun h => ?_, congrArg _⟩
    have hjoin := join16_iff.mpr h
    rw [join16_split16] at hjoin
    exact hjoin.symm
  unfold classify
  rw [hlen, if_neg (by omega), if_neg (by omega), Nat.add_sub_cancel]
  dsimp only
  rw [htake, hdrop]
  by_cases hcrc : crc16 body = crc
  · rw [if_neg (not_not.mpr (hsplit.mpr hcrc)), if_pos hcrc]
    cases parseBody body <;> rfl
  · rw [if_pos (mt hsplit.mp hcrc), if_neg hcrc]

/-- Settles O17: the body is read back by `parseBody_body`, under its own CRC. -/
theorem sentFramesReadBack : Obligations.SentFramesReadBack := by
  unfold Obligations.SentFramesReadBack
  intro f hsendable
  obtain ⟨hspelled, hlen⟩ := (sendable_iff f.payload).mp hsendable
  have hbody := f.body_length
  rw [Frame.bytes, classify_append _ _ (by omega) (by omega), if_pos rfl, parseBody_body f hspelled hlen]
  rfl

/-- A GOOD frame is a body under its own CRC. -/
theorem classify_good {bytes : List Byte} {f : Frame} (h : classify bytes = .good f) :
    ∃ body, bytes = body ++ split16 (crc16 body) ∧ body.length ≤ 58 ∧ parseBody body = some f := by
  unfold classify at h
  split at h
  · cases h
  split at h
  · cases h
  next hhigh =>
  dsimp only at h
  split at h
  · cases h
  next hcrc =>
  refine ⟨bytes.take (bytes.length - 2), ?_, by rw [List.length_take]; omega, ?_⟩
  · rw [not_not.mp hcrc, List.take_append_drop]
  · split at h
    · cases h
    · next hbody =>
      rw [hbody, Reception.good.inj h]

/-- Settles O18: `classify_good`, with the body spelled by `parseBody_spells`. -/
theorem goodFramesSpellThemselves : Obligations.GoodFramesSpellThemselves := by
  unfold Obligations.GoodFramesSpellThemselves
  intro bytes f h
  obtain ⟨body, rfl, hlen, hparse⟩ := classify_good h
  obtain ⟨rfl, hspelled⟩ := parseBody_spells hparse
  have hbody := f.body_length
  exact ⟨rfl, (sendable_iff f.payload).mpr ⟨hspelled, by omega⟩⟩

/-! ## Damaged frames -/

/-- The conditions of R36 on the header make a frame MALFORMED. -/
theorem parseBody_refused (h0 h1 h2 h3 h4 h5 h6 h7 h8 length : Byte) (payload : List Byte)
    (h : length.toNat ≠ payload.length ∨ h0.toNat / 16 = 0 ∨ 6 < h0.toNat / 16 ∨ h0 &&& 0x07#8 ≠ 0 ∨ h1 &&& 0x60#8 ≠ 0 ∨
      (h0.getLsbD 3 = true ↔ ¬(h0.toNat / 16 = 2 ∨ h0.toNat / 16 = 3 ∨ h0.toNat / 16 = 4))) :
    parseBody (h0 :: h1 :: h2 :: h3 :: h4 :: h5 :: h6 :: h7 :: h8 :: length :: payload) = none := by
  have hurgent : urgentKind (h0.toNat / 16) = true ↔ h0.toNat / 16 = 2 ∨ h0.toNat / 16 = 3 ∨ h0.toNat / 16 = 4 := by
    simp [urgentKind, or_assoc]
  simp only [parseBody]
  split
  · rfl
  next hlen =>
  split
  · rfl
  next hkind =>
  split
  · rfl
  next hclear =>
  split
  · rfl
  next hclass =>
  have hbit : h0.getLsbD 3 = true ↔ h0.toNat / 16 = 2 ∨ h0.toNat / 16 = 3 ∨ h0.toNat / 16 = 4 := by rw [not_not.mp hclass, hurgent]
  rcases h with h | h | h | h | h | h
  · exact absurd h hlen
  · exact absurd (Or.inl h) hkind
  · exact absurd (Or.inr h) hkind
  · exact absurd (Or.inl h) hclear
  · exact absurd (Or.inr h) hclear
  · exact absurd (hbit.symm.trans h) (iff_not_self)

theorem exec_frameReceived_deaf (L : Lane) (bytes : List Byte) (s : State) (h : laneReceives L s = false) :
    exec (.frameReceived L bytes) s = .next s := by
  show execFrameReceived L bytes s = _
  rw [execFrameReceived, if_neg (by simp [h])]

/-- With no copy in flight no attempt fails. -/
theorem failAttempt_idle (L : Lane) (s : State) (h : inFlightOn L s.tx.records = none) : failAttempt L s = s := by
  unfold failAttempt
  rw [h]

/-- With no copy in flight a frame of a class other than GOOD is counted, and no more (R35). -/
theorem exec_badClass_idle (L : Lane) (bytes : List Byte) (c : LaneCounter) (s : State) (h : laneReceives L s = true) (hc : badClass bytes c)
    (hidle : inFlightOn L s.tx.records = none) : exec (.frameReceived L bytes) s = .next (countLane L c s) := by
  rw [exec_badClass L bytes c s h hc, failAttempt_idle L _ (by simpa using hidle)]

/-- Settles O19: the classes by the tests of `classify`, the commands by `exec_badClass_idle`. -/
theorem damagedFramesAreOnlyCounted : Obligations.DamagedFramesAreOnlyCounted := by
  unfold Obligations.DamagedFramesAreOnlyCounted
  refine ⟨⟨classify_runt, classify_overlong, fun body crc hlow hhigh hcrc => ?_, fun h0 h1 h2 h3 h4 h5 h6 h7 h8 length payload => ?_⟩,
    fun L bytes s => ⟨fun h => ?_, fun henabled hclear hidle => ?_⟩⟩
  · exact (classify_append body crc hlow hhigh).trans (if_neg (Ne.symm hcrc))
  · intro body crc hlen hrefused
    have hbody : body.length = payload.length + 10 := by simp [body]
    refine (classify_append body crc (by omega) (by omega)).trans ?_
    rw [if_pos rfl]
    exact congrArg (Option.elim · _ _) (parseBody_refused h0 h1 h2 h3 h4 h5 h6 h7 h8 length payload hrefused)
  · apply exec_frameReceived_deaf
    rcases h with h | h <;> simp [laneReceives, h]
  · have hreceives : laneReceives L s = true := by simp [laneReceives, henabled, hclear]
    exact ⟨fun h => exec_badClass_idle L bytes _ s hreceives (.inl ⟨h, rfl⟩) hidle,
      fun h => exec_badClass_idle L bytes _ s hreceives (.inr (.inl ⟨h, rfl⟩)) hidle,
      fun h => exec_badClass_idle L bytes _ s hreceives (.inr (.inr (.inl ⟨h, rfl⟩))) hidle,
      fun h => exec_badClass_idle L bytes _ s hreceives (.inr (.inr (.inr ⟨h, rfl⟩))) hidle⟩

end Sys2Proof.Machine
end

section
/-! The way of a GOOD frame that is not own, peer's or conflicting station's: O20 and O24. -/

namespace Sys2Proof.Machine

open Sys2Proof

/-! ## States that a frame's handler treats alike but for the Catch-Up Unit -/

/-- `t` has all of `s` that the handlers of a frame of station `n` read, but what SYNC_ASK and SYNC_ENTRY read of the Catch-Up Unit and the phase; and all that they change but the Catch-Up Unit. -/
structure HandledAlike (n : Station) (s t : State) : Prop where
  zoneStore : t.zoneStore = s.zoneStore
  heads : t.heads = s.heads
  occupancy : t.occupancy = s.occupancy
  follow : t.node.phase.headsFollow = s.node.phase.headsFollow
  announcement : t.presence.peers[n].announcement = s.presence.peers[n].announcement
  zoneChanged : t.events.records.zoneChanged = s.events.records.zoneChanged
  occupancyChanged : t.events.records.occupancyChanged = s.events.records.occupancyChanged
  libraryMismatch : t.events.records.libraryMismatch = s.events.records.libraryMismatch
  counts : ∀ c : NodeCounter, c ≠ .peerRestart → t.counters.live[nodeIndex c] = s.counters.live[nodeIndex c]

namespace HandledAlike
variable {n : Station}

theorem refl (s : State) : HandledAlike n s s := ⟨rfl, rfl, rfl, rfl, rfl, rfl, rfl, rfl, fun _ _ => rfl⟩

theorem symm {s t : State} (h : HandledAlike n s t) : HandledAlike n t s where
  zoneStore := h.zoneStore.symm
  heads := h.heads.symm
  occupancy := h.occupancy.symm
  follow := h.follow.symm
  announcement := h.announcement.symm
  zoneChanged := h.zoneChanged.symm
  occupancyChanged := h.occupancyChanged.symm
  libraryMismatch := h.libraryMismatch.symm
  counts := fun c hc => (h.counts c hc).symm

theorem trans {s t u : State} (h : HandledAlike n s t) (h' : HandledAlike n t u) : HandledAlike n s u where
  zoneStore := h'.zoneStore.trans h.zoneStore
  heads := h'.heads.trans h.heads
  occupancy := h'.occupancy.trans h.occupancy
  follow := h'.follow.trans h.follow
  announcement := h'.announcement.trans h.announcement
  zoneChanged := h'.zoneChanged.trans h.zoneChanged
  occupancyChanged := h'.occupancyChanged.trans h.occupancyChanged
  libraryMismatch := h'.libraryMismatch.trans h.libraryMismatch
  counts := fun c hc => (h'.counts c hc).trans (h.counts c hc)

/-- States alike to all handlers, with the station's announcement and LIBRARY_MISMATCH as they were. -/
theorem of_alike {s t : State} (h : Alike s t) (ha : t.presence.peers[n].announcement = s.presence.peers[n].announcement)
    (hm : t.events.records.libraryMismatch = s.events.records.libraryMismatch) : HandledAlike n s t :=
  ⟨h.zoneStore, h.heads, h.occupancy, by rw [h.node], ha, h.zoneChanged, h.occupancyChanged, hm, h.counts⟩

variable {s t : State}

/-! The same block written on both sides, the same event raised, the same counter counted. -/

theorem setZoneStore (h : HandledAlike n s t) (x : ZoneStore) : HandledAlike n (s.setZoneStore x) (t.setZoneStore x) :=
  ⟨rfl, h.heads, h.occupancy, h.follow, h.announcement, h.zoneChanged, h.occupancyChanged, h.libraryMismatch, h.counts⟩

theorem setHeads (h : HandledAlike n s t) (x : HeadUnit) : HandledAlike n (s.setHeads x) (t.setHeads x) :=
  ⟨h.zoneStore, rfl, h.occupancy, h.follow, h.announcement, h.zoneChanged, h.occupancyChanged, h.libraryMismatch, h.counts⟩

theorem setOccupancy (h : HandledAlike n s t) (x : OccupancyUnit) : HandledAlike n (s.setOccupancy x) (t.setOccupancy x) :=
  ⟨h.zoneStore, h.heads, rfl, h.follow, h.announcement, h.zoneChanged, h.occupancyChanged, h.libraryMismatch, h.counts⟩

/-- The Catch-Up Unit is no matter. -/
theorem setCatchUp_self (s : State) (x : CatchUpUnit) : HandledAlike n s (s.setCatchUp x) :=
  ⟨rfl, rfl, rfl, rfl, rfl, rfl, rfl, rfl, fun _ _ => rfl⟩

theorem raise (h : HandledAlike n s t) (e : Event) : HandledAlike n (raise e s) (raise e t) := by
  refine ⟨h.zoneStore, h.heads, h.occupancy, h.follow, h.announcement, ?_, ?_, ?_, h.counts⟩ <;>
    cases e <;> simp [EventRecords.add, h.zoneChanged, h.occupancyChanged, h.libraryMismatch]

theorem countAt (h : HandledAlike n s t) (i : Fin 28) : HandledAlike n (countAt i s) (countAt i t) := by
  refine ⟨by simp [h.zoneStore], by simp [h.heads], by simp [h.occupancy], by simp [h.follow], ?_, by simp [h.zoneChanged], ?_, ?_,
    fun c hc => ?_⟩
  · simpa using h.announcement
  · rw [countAt_events i s, countAt_events i t]
    exact h.occupancyChanged
  · rw [countAt_events i s, countAt_events i t]
    exact h.libraryMismatch
  · rw [countAt_live, countAt_live, h.counts c hc]

theorem foldl {α : Type} (f : State → α → State) (hf : ∀ a s t, HandledAlike n s t → HandledAlike n (f s a) (f t a)) (l : List α)
    (h : HandledAlike n s t) : HandledAlike n (l.foldl f s) (l.foldl f t) := by
  induction l generalizing s t with
  | nil => exact h
  | cons a l ih => exact ih (hf a s t h)

/-! Settings and heads. -/

theorem raiseClock (h : HandledAlike n s t) (x : Word32) : HandledAlike n (raiseClock x s) (raiseClock x t) := by
  unfold Machine.raiseClock
  rw [h.zoneStore]
  split
  · exact h.setZoneStore _
  · exact h

theorem recomputeHeads (h : HandledAlike n s t) (z : Zone) (code : FadeCode) :
    HandledAlike n (recomputeHeads z code s) (recomputeHeads z code t) := by
  unfold Machine.recomputeHeads recomputeWhere
  rw [h.zoneStore, h.heads, h.occupancy, h.follow]
  split
  · exact h.setHeads _
  · exact h

theorem replaceEntry (h : HandledAlike n s t) (z : Zone) (x : Setting) : HandledAlike n (replaceEntry z x s) (replaceEntry z x t) := by
  unfold Machine.replaceEntry
  rw [h.zoneStore]
  exact ((h.setZoneStore _).raise _).recomputeHeads _ _

theorem merge (h : HandledAlike n s t) (z : Zone) (x : Setting) : HandledAlike n (merge z x s) (merge z x t) := by
  have hr := h.raiseClock x.stamp
  unfold Machine.merge
  dsimp only
  rw [hr.zoneStore]
  split
  · exact hr.replaceEntry z x
  · split
    · exact hr.replaceEntry z x
    · split
      · exact hr
      · exact hr.countAt _

theorem mergeLook (h : HandledAlike n s t) (look : Look) (stamp : Word32) (origin : Station) :
    HandledAlike n (mergeLook look stamp origin s) (mergeLook look stamp origin t) := by
  unfold Machine.mergeLook
  rw [h.zoneStore]
  refine foldl _ (fun p u v huv => ?_) _ h
  exact huv.merge _ _

/-! Occupancy. -/

theorem putOccupancy (h : HandledAlike n s t) (z : Zone) (r : OccupancyRecord) :
    HandledAlike n (putOccupancy z r s) (putOccupancy z r t) := by
  unfold Machine.putOccupancy
  rw [h.occupancy]
  exact h.setOccupancy _

theorem changeOccupancy (h : HandledAlike n s t) (z : Zone) (r : OccupancyRecord) :
    HandledAlike n (changeOccupancy z r s) (changeOccupancy z r t) := by
  have hc := (h.putOccupancy z r).raise (.occupancyChanged (oneOf z))
  unfold Machine.changeOccupancy
  dsimp only
  rw [hc.occupancy, hc.zoneStore, h.occupancy]
  split
  · exact hc.recomputeHeads _ _
  · split
    · exact hc.recomputeHeads _ _
    · exact hc

theorem wake (h : HandledAlike n s t) (cause : WakeCause) (z : Zone) : HandledAlike n (wake cause z s) (wake cause z t) := by
  unfold Machine.wake
  rw [h.occupancy]
  dsimp only
  split
  · exact h
  · exact h.putOccupancy _ _
  · exact h.changeOccupancy _ _
  · exact h.changeOccupancy _ _

theorem wakeAll (h : HandledAlike n s t) (cause : WakeCause) (zones : List Zone) :
    HandledAlike n (wakeAll cause zones s) (wakeAll cause zones t) :=
  h.foldl _ (fun z _ _ h => h.wake cause z) zones

/-! The handlers. -/

theorem acceptPresence (h : HandledAlike n s t) (x : Word32) (c : Word16) (p : AnnouncedPhase) (i l : Bool) :
    HandledAlike n (acceptPresence n x c p i l s) (acceptPresence n x c p i l t) := by
  have hs := Alike.acceptPresence_self n x c p i l s
  have ht := Alike.acceptPresence_self n x c p i l t
  have hflag : t.presence.peers[n].mismatch = s.presence.peers[n].mismatch := congrArg (fun a => a.2.2.2.2.2) h.announcement
  refine ⟨?_, ?_, ?_, ?_, ?_, ?_, ?_, ?_, fun c hc => ?_⟩
  · rw [hs.zoneStore, ht.zoneStore, h.zoneStore]
  · rw [hs.heads, ht.heads, h.heads]
  · rw [hs.occupancy, ht.occupancy, h.occupancy]
  · rw [hs.node, ht.node, h.follow]
  · rw [acceptPresence_peer, acceptPresence_peer, if_pos rfl, if_pos rfl, h.zoneStore]
    rfl
  · rw [hs.zoneChanged, ht.zoneChanged, h.zoneChanged]
  · rw [hs.occupancyChanged, ht.occupancyChanged, h.occupancyChanged]
  · rw [acceptPresence_libraryMismatch, acceptPresence_libraryMismatch, h.zoneStore, h.libraryMismatch, hflag]
  · rw [hs.counts c hc, ht.counts c hc, h.counts c hc]

theorem acceptSet (h : HandledAlike n s t) (f : Frame) (z : Zone) (c : Colour) (l : Byte) (x : FadeCode) (w : Bool) :
    HandledAlike n (acceptSet f z c l x w s) (acceptSet f z c l x w t) := by
  unfold Machine.acceptSet
  dsimp only
  split
  · exact (h.merge _ _).wake _ _
  · exact h.merge _ _

theorem acceptRecall (h : HandledAlike n s t) (f : Frame) (k : Look) (c : Word16) (w : Bool) :
    HandledAlike n (acceptRecall f k c w s) (acceptRecall f k c w t) := by
  unfold Machine.acceptRecall
  dsimp only
  rw [h.zoneStore]
  split
  · split
    · exact (h.mergeLook _ _ _).wakeAll _ _
    · exact h.mergeLook _ _ _
  · exact h.countAt _

theorem acceptAsk_self (wanted : ZoneSet) (s : State) : HandledAlike n s (acceptAsk wanted s) := by
  unfold Machine.acceptAsk
  dsimp only
  split
  · exact setCatchUp_self s _
  · exact refl s

theorem acceptEntries (h : HandledAlike n s t) (entries : List SyncEntry) :
    HandledAlike n (acceptEntries entries s) (acceptEntries entries t) := by
  have hmerged : HandledAlike n (mergeEntries entries s) (mergeEntries entries t) := by
    refine foldl _ (fun e u v huv => ?_) _ h
    exact huv.merge _ _
  exact (setCatchUp_self (mergeEntries entries s) _).symm.trans (hmerged.trans (setCatchUp_self (mergeEntries entries t) _))

/-- An accepted frame does the same to the Zone Store, the heads, the Occupancy Unit and its origin's announcement. -/
theorem acceptFrame {f : Frame} (h : HandledAlike f.origin s t) : HandledAlike f.origin (acceptFrame f s) (acceptFrame f t) := by
  have hr := h.raiseClock f.stamp
  unfold Machine.acceptFrame handleFrame
  split
  · exact hr.acceptPresence _ _ _ _ _
  · exact hr.acceptSet _ _ _ _ _ _
  · exact hr.acceptRecall _ _ _ _
  · exact hr.wakeAll _ _
  · exact (acceptAsk_self _ _).symm.trans (hr.trans (acceptAsk_self _ _))
  · exact hr.acceptEntries _

end HandledAlike

/-! ## What the handlers leave -/

/-- How a record's station was heard (R67, R72). -/
def PeerRecord.hearing (r : PeerRecord) : PeerState × Nat × PerLane Nat × Bool := (r.state, r.sinceHeard, r.sinceLane, r.crossed)

/-- `t` has of `s` what the handling of a frame of station `n` leaves: the Peer Table but for `n`'s announcement, the counters of the lanes and of restarts, and the events that are not the handlers'. -/
structure HandlingLeft (n : Station) (s t : State) : Prop where
  hearing : t.presence.peers[n].hearing = s.presence.peers[n].hearing
  others : ∀ m : Station, m ≠ n → t.presence.peers[m] = s.presence.peers[m]
  timer : t.presence.timer = s.presence.timer
  laneCounts : ∀ L c, t.counters.live[laneIndex L c] = s.counters.live[laneIndex L c]
  restarts : t.counters.live[nodeIndex .peerRestart] = s.counters.live[nodeIndex .peerRestart]
  peerRestart : t.events.records.peerRestart = s.events.records.peerRestart
  peerJoined : t.events.records.peerJoined = s.events.records.peerJoined
  laneUp : t.events.records.laneUp = s.events.records.laneUp
  stationConflict : t.events.records.stationConflict = s.events.records.stationConflict

namespace HandlingLeft
variable {n : Station}

theorem refl (s : State) : HandlingLeft n s s := ⟨rfl, fun _ _ => rfl, rfl, fun _ _ => rfl, rfl, rfl, rfl, rfl, rfl⟩

theorem trans {s t u : State} (h : HandlingLeft n s t) (h' : HandlingLeft n t u) : HandlingLeft n s u where
  hearing := h'.hearing.trans h.hearing
  others := fun m hm => (h'.others m hm).trans (h.others m hm)
  timer := h'.timer.trans h.timer
  laneCounts := fun L c => (h'.laneCounts L c).trans (h.laneCounts L c)
  restarts := h'.restarts.trans h.restarts
  peerRestart := h'.peerRestart.trans h.peerRestart
  peerJoined := h'.peerJoined.trans h.peerJoined
  laneUp := h'.laneUp.trans h.laneUp
  stationConflict := h'.stationConflict.trans h.stationConflict

theorem of_eq {s t : State} (hp : t.presence = s.presence) (hc : t.counters = s.counters) (he : t.events = s.events) : HandlingLeft n s t :=
  ⟨by rw [hp], fun _ _ => by rw [hp], by rw [hp], fun _ _ => by rw [hc], by rw [hc], by rw [he], by rw [he], by rw [he], by rw [he]⟩

theorem foldl {α : Type} (f : State → α → State) (hf : ∀ a s, HandlingLeft n s (f s a)) (l : List α) (s : State) :
    HandlingLeft n s (l.foldl f s) :=
  foldl_inv (fun t => HandlingLeft n s t) f (fun t a h => h.trans (hf a t)) l s (refl s)

theorem zoneChanged (z : ZoneSet) (s : State) : HandlingLeft n s (raise (.zoneChanged z) s) :=
  ⟨rfl, fun _ _ => rfl, rfl, fun _ _ => rfl, rfl, rfl, rfl, rfl, rfl⟩

theorem occupancyChanged (z : ZoneSet) (s : State) : HandlingLeft n s (raise (.occupancyChanged z) s) :=
  ⟨rfl, fun _ _ => rfl, rfl, fun _ _ => rfl, rfl, rfl, rfl, rfl, rfl⟩

theorem countNode (c : NodeCounter) (s : State) (h : c ≠ .peerRestart) : HandlingLeft n s (countNode c s) := by
  unfold Machine.countNode
  refine ⟨by simp, fun m _ => by simp, by simp, fun L d => ?_, ?_, ?_, ?_, ?_, ?_⟩
  · rw [countAt_live, if_neg (laneIndex_ne_nodeIndex L d c).symm]
  · rw [countAt_live, if_neg fun he => h (nodeIndex_injective _ _ he).symm]
  all_goals rw [countAt_events]

theorem recomputeHeads (z : Zone) (code : FadeCode) (s : State) : HandlingLeft n s (recomputeHeads z code s) :=
  of_eq (by simp) (by simp) (by simp)

theorem replaceEntry (z : Zone) (x : Setting) (s : State) : HandlingLeft n s (replaceEntry z x s) := by
  unfold Machine.replaceEntry
  have hstored : HandlingLeft n s (s.setZoneStore { s.zoneStore with table := update s.zoneStore.table z (some x) }) := of_eq rfl rfl rfl
  exact (hstored.trans (zoneChanged _ _)).trans (recomputeHeads _ _ _)

theorem raiseClock (x : Word32) (s : State) : HandlingLeft n s (raiseClock x s) := of_eq (by simp) (by simp) (by simp)

theorem merge (z : Zone) (x : Setting) (s : State) : HandlingLeft n s (merge z x s) := by
  refine (raiseClock x.stamp s).trans ?_
  unfold Machine.merge
  dsimp only
  split
  · exact replaceEntry _ _ _
  · split
    · exact replaceEntry _ _ _
    · split
      · exact refl _
      · exact countNode _ _ (by decide)

theorem changeOccupancy (z : Zone) (r : OccupancyRecord) (s : State) : HandlingLeft n s (changeOccupancy z r s) := by
  have hchanged : HandlingLeft n s (raise (.occupancyChanged (oneOf z)) (putOccupancy z r s)) :=
    HandlingLeft.trans (t := putOccupancy z r s) (of_eq rfl rfl rfl) (occupancyChanged _ _)
  unfold Machine.changeOccupancy
  dsimp only
  split
  · exact hchanged.trans (recomputeHeads _ _ _)
  · split
    · exact hchanged.trans (recomputeHeads _ _ _)
    · exact hchanged

theorem wake (cause : WakeCause) (z : Zone) (s : State) : HandlingLeft n s (wake cause z s) := by
  unfold Machine.wake
  dsimp only
  split
  · exact refl s
  · exact of_eq rfl rfl rfl
  · exact changeOccupancy _ _ _
  · exact changeOccupancy _ _ _

theorem wakeAll (cause : WakeCause) (zones : List Zone) (s : State) : HandlingLeft n s (wakeAll cause zones s) :=
  foldl _ (fun z s => wake cause z s) zones s

theorem mergeLook (look : Look) (stamp : Word32) (origin : Station) (s : State) : HandlingLeft n s (mergeLook look stamp origin s) :=
  foldl _ (fun _ s => merge _ _ s) _ s

/-! The handlers. -/

/-- An accepted PRESENCE writes the announced fields alone, and raises LIBRARY_MISMATCH alone. -/
theorem acceptPresence (x : Word32) (c : Word16) (p : AnnouncedPhase) (i l : Bool) (s : State) :
    HandlingLeft n s (acceptPresence n x c p i l s) := by
  refine ⟨?_, fun m hm => ?_, ?_, ?_, ?_, ?_, ?_, ?_, ?_⟩
  · rw [acceptPresence_peer, if_pos rfl]
    rfl
  · rw [acceptPresence_peer, if_neg hm]
  all_goals
    unfold Machine.acceptPresence
    dsimp only
    split
    · intros; rfl
    · intros; rfl

theorem acceptSet (f : Frame) (z : Zone) (c : Colour) (l : Byte) (x : FadeCode) (w : Bool) (s : State) :
    HandlingLeft n s (acceptSet f z c l x w s) := by
  unfold Machine.acceptSet
  dsimp only
  split
  · exact (merge _ _ s).trans (wake _ _ _)
  · exact merge _ _ s

theorem acceptRecall (f : Frame) (k : Look) (c : Word16) (w : Bool) (s : State) : HandlingLeft n s (acceptRecall f k c w s) := by
  unfold Machine.acceptRecall
  dsimp only
  split
  · split
    · exact (mergeLook _ _ _ s).trans (wakeAll _ _ _)
    · exact mergeLook _ _ _ s
  · exact countNode _ s (by decide)

theorem acceptEntries (entries : List SyncEntry) (s : State) : HandlingLeft n s (acceptEntries entries s) :=
  HandlingLeft.trans (t := mergeEntries entries s) (foldl _ (fun _ s => merge _ _ s) entries s)
    (of_eq (strikeAnswers_frame entries _).2.2.2.1 (by simp [acceptEntries_eq]) (by simp [acceptEntries_eq]))

theorem acceptFrame (f : Frame) (s : State) : HandlingLeft f.origin s (acceptFrame f s) := by
  refine (raiseClock f.stamp s).trans ?_
  unfold Machine.acceptFrame handleFrame
  split
  · exact acceptPresence _ _ _ _ _ _
  · exact acceptSet _ _ _ _ _ _ _
  · exact acceptRecall _ _ _ _ _
  · exact wakeAll _ _ _
  · exact of_eq (by simp) (by simp) (by simp)
  · exact acceptEntries _ _

end HandlingLeft

/-! ## The Duplicate Filter -/

theorem countLane_node (L : Lane) (c : LaneCounter) (n : NodeCounter) (s : State) :
    (countLane L c s).counters.live[nodeIndex n] = s.counters.live[nodeIndex n] := by
  rw [countLane_live, if_neg (laneIndex_ne_nodeIndex L c n)]

theorem countNode_lane (L : Lane) (c : LaneCounter) (n : NodeCounter) (s : State) :
    (countNode n s).counters.live[laneIndex L c] = s.counters.live[laneIndex L c] := by
  rw [countNode, countAt_live, if_neg (laneIndex_ne_nodeIndex L c n).symm]

/-- A count leaves the events that are not of counters. -/
theorem countAt_otherEvents (i : Fin 28) (s : State) :
    (countAt i s).events.records.peerRestart = s.events.records.peerRestart ∧
    (countAt i s).events.records.peerJoined = s.events.records.peerJoined ∧
    (countAt i s).events.records.laneUp = s.events.records.laneUp ∧
    (countAt i s).events.records.stationConflict = s.events.records.stationConflict ∧
    (countAt i s).events.records.libraryMismatch = s.events.records.libraryMismatch := by
  rw [countAt_events]
  exact ⟨rfl, rfl, rfl, rfl, rfl⟩

/-- A judged frame before its handler: its entry written, and a restart, a duplicate or a stale frame counted (R52, R53, R57). -/
def judgedFrame (L : Lane) (f : Frame) (v : Verdict × OriginEntry) (s : State) : State :=
  let noted := s.setFilter { s.filter with entries := update s.filter.entries f.origin v.2 }
  match v.1 with
  | .accepted => noted
  | .restarted => raise (.peerRestart (oneOf f.origin)) (countNode .peerRestart noted)
  | .duplicate => countLane L .rxDuplicate noted
  | .stale => countLane L .rxStale noted

theorem filterFrame_eq (L : Lane) (f : Frame) (s : State) (v : Verdict × OriginEntry)
    (h : judge L f s.filter.timeBase (lanesUp s) s.filter.entries[f.origin] = v) :
    filterFrame L f s = if v.1.accepts = true then acceptFrame f (judgedFrame L f v s) else judgedFrame L f v s := by
  obtain ⟨verdict, entry⟩ := v
  unfold filterFrame judgedFrame
  rw [h]
  cases verdict <;> rfl

section
variable (L : Lane) (f : Frame) (v : Verdict × OriginEntry) (s : State)

@[simp] theorem judgedFrame_frame :
    (judgedFrame L f v s).pins = s.pins ∧ (judgedFrame L f v s).lanes = s.lanes ∧ (judgedFrame L f v s).presence = s.presence ∧
    (judgedFrame L f v s).zoneStore = s.zoneStore ∧ (judgedFrame L f v s).catchUp = s.catchUp ∧ (judgedFrame L f v s).tx = s.tx ∧
    (judgedFrame L f v s).occupancy = s.occupancy ∧ (judgedFrame L f v s).inputs = s.inputs ∧ (judgedFrame L f v s).heads = s.heads ∧
    (judgedFrame L f v s).node = s.node ∧ (judgedFrame L f v s).store = s.store ∧ (judgedFrame L f v s).port = s.port ∧
    (judgedFrame L f v s).pending = s.pending ∧
    (judgedFrame L f v s).filter = { s.filter with entries := update s.filter.entries f.origin v.2 } := by
  obtain ⟨verdict, entry⟩ := v
  cases verdict <;> simp [judgedFrame]

/-- Of a lane's counters a judgement counts that of its verdict. -/
theorem judgedFrame_lane (c : LaneCounter) :
    (judgedFrame L f v s).counters.live[laneIndex L c] =
      if (c = .rxDuplicate ∧ v.1 = .duplicate) ∨ (c = .rxStale ∧ v.1 = .stale) then oneMore s.counters.live[laneIndex L c]
      else s.counters.live[laneIndex L c] := by
  have hcount (d : LaneCounter) (u : State) : (countLane L d u).counters.live[laneIndex L c] =
      if c = d then oneMore u.counters.live[laneIndex L c] else u.counters.live[laneIndex L c] := by
    rw [countLane_live]
    exact if_congr ⟨laneIndex_injective L c d, congrArg _⟩ rfl rfl
  obtain ⟨verdict, entry⟩ := v
  cases verdict with
  | accepted => exact (if_neg (by simp)).symm
  | restarted => exact (countNode_lane L c _ _).trans (if_neg (by simp)).symm
  | duplicate => exact (hcount .rxDuplicate _).trans (if_congr (by simp) rfl rfl)
  | stale => exact (hcount .rxStale _).trans (if_congr (by simp) rfl rfl)

theorem judgedFrame_restarts :
    (judgedFrame L f v s).counters.live[nodeIndex .peerRestart] =
      if v.1 = .restarted then oneMore s.counters.live[nodeIndex .peerRestart] else s.counters.live[nodeIndex .peerRestart] := by
  obtain ⟨verdict, entry⟩ := v
  cases verdict with
  | accepted => rfl
  | restarted => exact (countAt_live _ _ _).trans (if_pos rfl)
  | duplicate => exact countLane_node L .rxDuplicate _ _
  | stale => exact countLane_node L .rxStale _ _

theorem judgedFrame_events :
    (judgedFrame L f v s).events.records.peerRestart =
      (if v.1 = .restarted then andOne s.events.records.peerRestart f.origin else s.events.records.peerRestart) ∧
    (judgedFrame L f v s).events.records.peerJoined = s.events.records.peerJoined ∧
    (judgedFrame L f v s).events.records.laneUp = s.events.records.laneUp ∧
    (judgedFrame L f v s).events.records.stationConflict = s.events.records.stationConflict := by
  obtain ⟨verdict, entry⟩ := v
  cases verdict with
  | accepted => exact ⟨rfl, rfl, rfl, rfl⟩
  | restarted =>
    obtain ⟨hrestart, hjoined, hup, hconflict, _⟩ := countAt_otherEvents (nodeIndex .peerRestart)
      (s.setFilter { s.filter with entries := update s.filter.entries f.origin entry })
    exact ⟨congrArg (andOne · f.origin) hrestart, hjoined, hup, hconflict⟩
  | duplicate =>
    obtain ⟨hrestart, hjoined, hup, hconflict, _⟩ := countAt_otherEvents (laneIndex L .rxDuplicate)
      (s.setFilter { s.filter with entries := update s.filter.entries f.origin entry })
    exact ⟨hrestart, hjoined, hup, hconflict⟩
  | stale =>
    obtain ⟨hrestart, hjoined, hup, hconflict, _⟩ := countAt_otherEvents (laneIndex L .rxStale)
      (s.setFilter { s.filter with entries := update s.filter.entries f.origin entry })
    exact ⟨hrestart, hjoined, hup, hconflict⟩

/-- To the handlers a judgement is no matter. -/
theorem judgedFrame_alike : Alike s (judgedFrame L f v s) := by
  have hnoted (x : DuplicateFilter) : Alike s (s.setFilter x) := ⟨rfl, rfl, rfl, rfl, rfl, rfl, rfl, rfl, fun _ _ => rfl⟩
  have hraised (u : State) : Alike u (raise (.peerRestart (oneOf f.origin)) u) := ⟨rfl, rfl, rfl, rfl, rfl, rfl, rfl, rfl, fun _ _ => rfl⟩
  have hrestart (u : State) : Alike u (countNode .peerRestart u) :=
    countAt_alike (nodeIndex .peerRestart) u (fun c hc he => hc (nodeIndex_injective _ _ he))
  obtain ⟨verdict, entry⟩ := v
  cases verdict with
  | accepted => exact hnoted _
  | restarted => exact ((hnoted _).trans (hrestart _)).trans (hraised _)
  | duplicate => exact (hnoted _).trans (countLane_alike _ _ _)
  | stale => exact (hnoted _).trans (countLane_alike _ _ _)

theorem judgedFrame_libraryMismatch :
    (judgedFrame L f v s).events.records.libraryMismatch = s.events.records.libraryMismatch := by
  obtain ⟨verdict, entry⟩ := v
  cases verdict with
  | accepted => rfl
  | restarted => exact (countAt_otherEvents (nodeIndex .peerRestart) _).2.2.2.2
  | duplicate => exact (countAt_otherEvents (laneIndex L .rxDuplicate) _).2.2.2.2
  | stale => exact (countAt_otherEvents (laneIndex L .rxStale) _).2.2.2.2

end

/-! ## The Presence Monitor -/

/-- A frame counted on its lane, and its origin heard (R37, R40, R67). -/
def heardAfter (L : Lane) (f : Frame) (s : State) : State :=
  hearPeer L f.origin (isCrossed L f)
    (if isCrossed L f then countLane L .rxCrossed (countLane L .rxGood s) else countLane L .rxGood s)

section
variable (L : Lane) (f : Frame) (s : State)

/-- The record of the station heard: SELF's by its crossed flag alone (R67, R75). -/
theorem hearPeer_hearing (n : Station) (crossed : Bool) :
    (hearPeer L n crossed s).presence.peers[n].hearing =
      if s.presence.peers[n].state = .self then
        (.self, s.presence.peers[n].sinceHeard, s.presence.peers[n].sinceLane, s.presence.peers[n].crossed || crossed)
      else (.present, 0, s.presence.peers[n].sinceLane.put L 0, s.presence.peers[n].crossed || crossed) := by
  have hput (r : PeerRecord) (t : State) : (putPeer n r t).presence.peers[n] = r := by
    rw [putPeer_peers, update_get, if_pos rfl]
  unfold hearPeer
  dsimp only
  split
  · next h => rw [hput, if_pos h, PeerRecord.hearing, h]
  · next h => rw [hput, if_neg (by rw [h]; decide)]; rfl
  · next h => rw [hput, if_neg (by rw [h]; decide)]; rfl
  · next h => rw [(raise_frame _ _).2.2.2.1, hput, if_neg (by rw [h]; decide)]; rfl
  · next h => rw [(raise_frame _ _).2.2.2.1, hput, if_neg (by rw [h]; decide)]; rfl

/-- A station that was ABSENT or LOST joins (R67). -/
theorem hearPeer_events (n : Station) (crossed : Bool) :
    (hearPeer L n crossed s).events.records.peerJoined =
      (if s.presence.peers[n].state = .absent ∨ s.presence.peers[n].state = .lost then andOne s.events.records.peerJoined n
       else s.events.records.peerJoined) ∧
    (hearPeer L n crossed s).events.records.peerRestart = s.events.records.peerRestart ∧
    (hearPeer L n crossed s).events.records.laneUp = s.events.records.laneUp ∧
    (hearPeer L n crossed s).events.records.stationConflict = s.events.records.stationConflict := by
  unfold hearPeer
  dsimp only
  split
  · next h => exact ⟨(if_neg (by rw [h]; decide)).symm, rfl, rfl, rfl⟩
  · next h => exact ⟨(if_neg (by rw [h]; decide)).symm, rfl, rfl, rfl⟩
  · next h => exact ⟨(if_neg (by rw [h]; decide)).symm, rfl, rfl, rfl⟩
  · next h => exact ⟨(if_pos (.inl h)).symm, rfl, rfl, rfl⟩
  · next h => exact ⟨(if_pos (.inr h)).symm, rfl, rfl, rfl⟩

theorem hearPeer_timer (n : Station) (crossed : Bool) : (hearPeer L n crossed s).presence.timer = s.presence.timer := by
  unfold hearPeer
  dsimp only
  split <;> rfl

theorem isCrossed_iff : isCrossed L f = true ↔ f.laneTag ≠ L := by simp [isCrossed]

@[simp] theorem heardAfter_frame :
    (heardAfter L f s).pins = s.pins ∧ (heardAfter L f s).lanes = s.lanes ∧ (heardAfter L f s).filter = s.filter ∧
    (heardAfter L f s).zoneStore = s.zoneStore ∧ (heardAfter L f s).catchUp = s.catchUp ∧ (heardAfter L f s).tx = s.tx ∧
    (heardAfter L f s).occupancy = s.occupancy ∧ (heardAfter L f s).inputs = s.inputs ∧ (heardAfter L f s).heads = s.heads ∧
    (heardAfter L f s).node = s.node ∧ (heardAfter L f s).store = s.store ∧ (heardAfter L f s).port = s.port ∧
    (heardAfter L f s).pending = s.pending ∧ (heardAfter L f s).presence.timer = s.presence.timer := by
  unfold heardAfter
  rw [hearPeer_timer]
  split <;> simp

theorem heardAfter_alike : Alike s (heardAfter L f s) := by
  have hgood := countLane_alike L .rxGood s
  unfold heardAfter
  split
  · exact (hgood.trans (countLane_alike _ _ _)).trans (hearPeer_alike _ _ _ _)
  · exact hgood.trans (hearPeer_alike _ _ _ _)

theorem heardAfter_onlyHeard : OnlyHeard f.origin s (heardAfter L f s) := by
  have hgood : OnlyHeard f.origin s (countLane L .rxGood s) := countAt_onlyHeard _ _ _
  unfold heardAfter
  split
  · exact (hgood.trans (countAt_onlyHeard _ _ _)).trans (hearPeer_onlyHeard _ _ _ _)
  · exact hgood.trans (hearPeer_onlyHeard _ _ _ _)

theorem heardAfter_hearing :
    (heardAfter L f s).presence.peers[f.origin].hearing =
      if s.presence.peers[f.origin].state = .self then
        (.self, s.presence.peers[f.origin].sinceHeard, s.presence.peers[f.origin].sinceLane,
          s.presence.peers[f.origin].crossed || isCrossed L f)
      else (.present, 0, s.presence.peers[f.origin].sinceLane.put L 0, s.presence.peers[f.origin].crossed || isCrossed L f) := by
  have hpresence : ∀ c : Bool, (if c = true then countLane L .rxCrossed (countLane L .rxGood s) else countLane L .rxGood s).presence =
      s.presence := by
    intro c
    cases c <;> simp
  rw [heardAfter, hearPeer_hearing, hpresence]

theorem heardAfter_events :
    (heardAfter L f s).events.records.peerJoined =
      (if s.presence.peers[f.origin].state = .absent ∨ s.presence.peers[f.origin].state = .lost then
         andOne s.events.records.peerJoined f.origin
       else s.events.records.peerJoined) ∧
    (heardAfter L f s).events.records.peerRestart = s.events.records.peerRestart ∧
    (heardAfter L f s).events.records.laneUp = s.events.records.laneUp ∧
    (heardAfter L f s).events.records.stationConflict = s.events.records.stationConflict := by
  obtain ⟨hrestart, hjoined, hup, hconflict, _⟩ := countAt_otherEvents (laneIndex L .rxGood) s
  obtain ⟨hrestart', hjoined', hup', hconflict', _⟩ := countAt_otherEvents (laneIndex L .rxCrossed) (countLane L .rxGood s)
  have hevents (t : State) (hp : t.presence = s.presence) (hr : t.events.records.peerRestart = s.events.records.peerRestart)
      (hj : t.events.records.peerJoined = s.events.records.peerJoined) (hu : t.events.records.laneUp = s.events.records.laneUp)
      (hc : t.events.records.stationConflict = s.events.records.stationConflict) :=
    hp ▸ hr ▸ hj ▸ hu ▸ hc ▸ hearPeer_events L t f.origin (isCrossed L f)
  unfold heardAfter
  split
  · exact hevents _ (by simp) (hrestart'.trans hrestart) (hjoined'.trans hjoined) (hup'.trans hup) (hconflict'.trans hconflict)
  · exact hevents _ (by simp) hrestart hjoined hup hconflict

/-- A frame counts as GOOD, and as crossed where its lane tag names the other lane (R37, R40). -/
theorem heardAfter_lane (c : LaneCounter) :
    (heardAfter L f s).counters.live[laneIndex L c] =
      if c = .rxGood ∨ (c = .rxCrossed ∧ f.laneTag ≠ L) then oneMore s.counters.live[laneIndex L c] else s.counters.live[laneIndex L c] := by
  have hcount (d : LaneCounter) (u : State) : (countLane L d u).counters.live[laneIndex L c] =
      if c = d then oneMore u.counters.live[laneIndex L c] else u.counters.live[laneIndex L c] := by
    rw [countLane_live]
    exact if_congr ⟨laneIndex_injective L c d, congrArg _⟩ rfl rfl
  rw [heardAfter, (hearPeer_frame L f.origin (isCrossed L f) _).2.2.2.2.2.2.2.2.2.2.1]
  by_cases hcrossed : f.laneTag = L
  · rw [if_neg (by simp [isCrossed, hcrossed]), hcount]
    exact if_congr (by simp [hcrossed]) rfl rfl
  · rw [if_pos ((isCrossed_iff L f).mpr hcrossed), hcount, hcount]
    by_cases hc : c = .rxCrossed
    · subst hc
      simp [hcrossed]
    · rw [if_neg hc]
      exact if_congr (by simp [hc]) rfl rfl

theorem heardAfter_restarts :
    (heardAfter L f s).counters.live[nodeIndex .peerRestart] = s.counters.live[nodeIndex .peerRestart] := by
  rw [heardAfter, (hearPeer_frame L f.origin (isCrossed L f) _).2.2.2.2.2.2.2.2.2.2.1]
  split
  · rw [countLane_node, countLane_node]
  · rw [countLane_node]

end

/-! ## The frame taken -/

/-- A GOOD frame taken from the state `s`, its lane UP and a conflict reported, with the filter's judgement `v` (R37, R59). -/
def takenFrame (L : Lane) (f : Frame) (v : Verdict × OriginEntry) (s : State) : State :=
  if v.1.accepts = true then acceptFrame f (judgedFrame L f v (heardAfter L f s)) else judgedFrame L f v (heardAfter L f s)

/-- The lane UP, and the conflict reported (R39, R47). -/
def reportedFrame (L : Lane) (f : Frame) (s : State) : State :=
  if s.node.station = some f.origin then stationConflict f.origin (bringLaneUp L s) else bringLaneUp L s

theorem takeGood_eq (L : Lane) (f : Frame) (s : State) :
    takeGood L f s = takenFrame L f (filterJudges L f s) (reportedFrame L f s) := by
  have hstation : (bringLaneUp L s).node = s.node := (bringLaneUp_alike L s).node
  have hlanes : (reportedFrame L f s).lanes = (bringLaneUp L s).lanes := by
    unfold reportedFrame
    split <;> simp
  have hfilter : (reportedFrame L f s).filter = s.filter := by
    unfold reportedFrame
    split <;> simp
  have hjudge := judge_reached L f s (heardAfter L f (reportedFrame L f s)) (by simpa using hlanes) (by simpa using hfilter)
  rw [takenFrame, ← filterFrame_eq L f _ _ hjudge]
  unfold takeGood heardAfter reportedFrame
  dsimp only
  rw [hstation]

section
variable (L : Lane) (f : Frame) (v : Verdict × OriginEntry) (s : State)

/-- What a frame's handling leaves stands as the judgement left it. -/
theorem takenFrame_left : HandlingLeft f.origin (judgedFrame L f v (heardAfter L f s)) (takenFrame L f v s) := by
  unfold takenFrame
  split
  · exact .acceptFrame f _
  · exact .refl _

@[simp] theorem takenFrame_frame :
    (takenFrame L f v s).pins = s.pins ∧ (takenFrame L f v s).lanes = s.lanes ∧ (takenFrame L f v s).tx = s.tx ∧
    (takenFrame L f v s).inputs = s.inputs ∧ (takenFrame L f v s).node = s.node ∧ (takenFrame L f v s).store = s.store ∧
    (takenFrame L f v s).port = s.port ∧ (takenFrame L f v s).pending = s.pending ∧
    (takenFrame L f v s).filter = { s.filter with entries := update s.filter.entries f.origin v.2 } := by
  unfold takenFrame
  split <;> simp

theorem takenFrame_entry (n : Station) : (takenFrame L f v s).filter.entries[n] = if n = f.origin then v.2 else s.filter.entries[n] := by
  rw [(takenFrame_frame L f v s).2.2.2.2.2.2.2.2, update_get]

/-- A frame counts on its lane as GOOD, as crossed by its lane tag, and as a duplicate or stale by its verdict. -/
theorem takenFrame_lane (c : LaneCounter) :
    (takenFrame L f v s).counters.live[laneIndex L c] =
      if c = .rxGood ∨ (c = .rxCrossed ∧ f.laneTag ≠ L) ∨ (c = .rxDuplicate ∧ v.1 = .duplicate) ∨ (c = .rxStale ∧ v.1 = .stale) then
        oneMore s.counters.live[laneIndex L c]
      else s.counters.live[laneIndex L c] := by
  rw [(takenFrame_left L f v s).laneCounts, judgedFrame_lane, heardAfter_lane]
  cases c <;> simp

theorem takenFrame_restarts :
    (takenFrame L f v s).counters.live[nodeIndex .peerRestart] =
      if v.1 = .restarted then oneMore s.counters.live[nodeIndex .peerRestart] else s.counters.live[nodeIndex .peerRestart] := by
  rw [(takenFrame_left L f v s).restarts, judgedFrame_restarts, heardAfter_restarts]

theorem takenFrame_events :
    (takenFrame L f v s).events.records.peerRestart =
      (if v.1 = .restarted then andOne s.events.records.peerRestart f.origin else s.events.records.peerRestart) ∧
    (takenFrame L f v s).events.records.peerJoined =
      (if s.presence.peers[f.origin].state = .absent ∨ s.presence.peers[f.origin].state = .lost then
         andOne s.events.records.peerJoined f.origin
       else s.events.records.peerJoined) ∧
    (takenFrame L f v s).events.records.laneUp = s.events.records.laneUp ∧
    (takenFrame L f v s).events.records.stationConflict = s.events.records.stationConflict := by
  have hleft := takenFrame_left L f v s
  obtain ⟨hrestart, hjoined, hup, hconflict⟩ := judgedFrame_events L f v (heardAfter L f s)
  obtain ⟨hjoined', hrestart', hup', hconflict'⟩ := heardAfter_events L f s
  rw [hleft.peerRestart, hleft.peerJoined, hleft.laneUp, hleft.stationConflict, hrestart, hjoined, hup, hconflict, hrestart', hjoined',
    hup', hconflict']
  exact ⟨rfl, rfl, rfl, rfl⟩

theorem takenFrame_timer : (takenFrame L f v s).presence.timer = s.presence.timer := by
  rw [(takenFrame_left L f v s).timer]
  simp

theorem takenFrame_others (n : Station) (hn : n ≠ f.origin) : (takenFrame L f v s).presence.peers[n] = s.presence.peers[n] := by
  rw [(takenFrame_left L f v s).others n hn, (judgedFrame_frame L f v _).2.2.1, (heardAfter_onlyHeard L f s).others n hn]

theorem takenFrame_hearing :
    (takenFrame L f v s).presence.peers[f.origin].hearing =
      if s.presence.peers[f.origin].state = .self then
        (.self, s.presence.peers[f.origin].sinceHeard, s.presence.peers[f.origin].sinceLane,
          s.presence.peers[f.origin].crossed || isCrossed L f)
      else (.present, 0, s.presence.peers[f.origin].sinceLane.put L 0, s.presence.peers[f.origin].crossed || isCrossed L f) := by
  rw [(takenFrame_left L f v s).hearing, (judgedFrame_frame L f v _).2.2.1, heardAfter_hearing]

/-- Until its handler acts, a frame is no matter to what the handlers read. -/
theorem judgedFrame_heardAfter_handledAlike : HandledAlike f.origin s (judgedFrame L f v (heardAfter L f s)) := by
  have hheard := heardAfter_onlyHeard L f s
  refine .of_alike ((heardAfter_alike L f s).trans (judgedFrame_alike L f v _)) ?_ ?_
  · rw [(judgedFrame_frame L f v _).2.2.1, hheard.announcement]
  · rw [judgedFrame_libraryMismatch, hheard.libraryMismatch]

variable {L f v s}

/-- One that is dropped has no effect of a handler (R60). -/
theorem takenFrame_dropped (h : v.1.accepts = false) : HandledAlike f.origin s (takenFrame L f v s) ∧ (takenFrame L f v s).catchUp = s.catchUp := by
  rw [takenFrame, if_neg (by simp [h])]
  exact ⟨judgedFrame_heardAfter_handledAlike L f v s, by simp⟩

/-- One that is accepted has the effect its handler has on any node that reads alike (R59). -/
theorem takenFrame_accepted {s' : State} (hs : HandledAlike f.origin s' s) (h : v.1.accepts = true) :
    HandledAlike f.origin (acceptFrame f s') (takenFrame L f v s) := by
  rw [takenFrame, if_pos h]
  exact (hs.trans (judgedFrame_heardAfter_handledAlike L f v s)).acceptFrame

theorem takenFrame_catchUp {s' : State} (hs : Alike s' s) (h : v.1.accepts = true) :
    (takenFrame L f v s).catchUp = (acceptFrame f s').catchUp := by
  rw [takenFrame, if_pos h]
  exact ((hs.trans ((heardAfter_alike L f s).trans (judgedFrame_alike L f v _))).acceptFrame f).catchUp

end

/-! ## Peers -/

/-- A clock raised once is high enough. -/
theorem raiseClock_again (x : Word32) (s : State) : raiseClock x (raiseClock x s) = raiseClock x s := by
  have hclock := (raiseClock_zoneStore x s).2
  have hhigh : ¬ (raiseClock x s).zoneStore.clock.toNat < x.toNat := by omega
  conv_lhs => unfold raiseClock
  exact if_neg hhigh

/-- An accepted frame raises the clock to its stamp, and its handler lowers it no more (R5). -/
theorem acceptFrame_clock (f : Frame) (s : State) : f.stamp.toNat ≤ (acceptFrame f s).zoneStore.clock.toNat := by
  have hraised := (raiseClock_zoneStore f.stamp s).2
  have hrises := (acceptFrame_rises f (raiseClock f.stamp s)).1
  rw [acceptFrame, raiseClock_again] at hrises
  show _ ≤ (handleFrame f (raiseClock f.stamp s)).zoneStore.clock.toNat
  omega

theorem bringLaneUp_handledAlike (L : Lane) (n : Station) (s : State) : HandledAlike n s (bringLaneUp L s) :=
  .of_alike (bringLaneUp_alike L s) (bringLaneUp_onlyHeard L n s).announcement (bringLaneUp_onlyHeard L n s).libraryMismatch

theorem bringLaneUp_otherEvents (L : Lane) (s : State) :
    (bringLaneUp L s).events.records.peerRestart = s.events.records.peerRestart ∧
    (bringLaneUp L s).events.records.peerJoined = s.events.records.peerJoined := by
  unfold bringLaneUp
  dsimp only
  split <;> exact ⟨rfl, rfl⟩

/-- Settles O20: the frame taken, its lane brought UP. -/
theorem goodFramesReachMonitorAndFilter : Obligations.GoodFramesReachMonitorAndFilter := by
  unfold Obligations.GoodFramesReachMonitorAndFilter
  intro L bytes f s hforeign hpeer hother
  have hlane := laneReceives_enabled L s hforeign.taken
  have htaken : takeGood L f s = takenFrame L f (filterJudges L f s) (bringLaneUp L s) := by
    rw [takeGood_eq, reportedFrame, if_neg hpeer]
  have hpresence : (bringLaneUp L s).presence = s.presence := by simp
  have hcounters : (bringLaneUp L s).counters = s.counters := by simp
  have hfilter : (bringLaneUp L s).filter = s.filter := by simp
  generalize filterJudges L f s = v at htaken
  generalize ht : takenFrame L f v (bringLaneUp L s) = t at htaken
  have hlanes : t.lanes = s.lanes.put L { s.lanes.get L with state := .up } := by
    rw [← ht, (takenFrame_frame L f v _).2.1, bringLaneUp_lane L s hlane]
  have hhearing := takenFrame_hearing L f v (bringLaneUp L s)
  rw [hpresence, if_neg hother, ht] at hhearing
  have hlaneCount (c : LaneCounter) := takenFrame_lane L f v (bringLaneUp L s) c
  have hrestarts := takenFrame_restarts L f v (bringLaneUp L s)
  simp only [hcounters, ht] at hlaneCount hrestarts
  obtain ⟨hrestart, hjoined, hup, _⟩ := takenFrame_events L f v (bringLaneUp L s)
  obtain ⟨hrestart', hjoined'⟩ := bringLaneUp_otherEvents L s
  rw [hpresence, hjoined', ht] at hjoined
  rw [hrestart', ht] at hrestart
  rw [bringLaneUp_laneUp, ht] at hup
  refine ⟨t, (exec_foreign L bytes f s hforeign).trans (by rw [htaken]), ?_, ?_, congrArg (·.1) hhearing, congrArg (·.2.1) hhearing,
    congrArg (·.2.2.1) hhearing, congrArg (·.2.2.2) hhearing, fun n hn => ?_, ?_, ?_, ?_, ?_, ?_, hrestarts, hrestart, hjoined, hup, ?_,
    fun n => ?_, fun h => ?_, fun h => ?_, fun h => ?_, ?_⟩
  · rw [hlanes, PerLane.put_get]
  · rw [hlanes, PerLane.put_get_other]
  · rw [← ht, takenFrame_others L f v _ n hn, hpresence]
  · rw [← ht, takenFrame_timer, hpresence]
  · rw [hlaneCount, if_pos (.inl rfl)]
  · rw [hlaneCount]
    by_cases htag : f.laneTag = L <;> simp [htag]
  · rw [hlaneCount]
    exact if_congr (by simp) rfl rfl
  · rw [hlaneCount]
    exact if_congr (by simp) rfl rfl
  · rw [← ht, (takenFrame_frame L f v _).2.2.2.2.2.2.2.2, hfilter]
  · rw [← ht, takenFrame_entry, hfilter]
  · rw [← ht, (takenFrame_accepted (bringLaneUp_handledAlike L f.origin s) h).zoneStore]
    exact acceptFrame_clock f s
  · have hhandled := takenFrame_accepted (L := L) (bringLaneUp_handledAlike L f.origin s) h
    have hcatchUp := takenFrame_catchUp (L := L) (f := f) (bringLaneUp_alike L s) h
    rw [ht] at hhandled hcatchUp
    exact ⟨hhandled.zoneStore, hhandled.heads, hhandled.occupancy, hcatchUp, hhandled.announcement, hhandled.counts, hhandled.zoneChanged,
      hhandled.occupancyChanged, hhandled.libraryMismatch⟩
  · obtain ⟨hdropped, hcatchUp⟩ := takenFrame_dropped (L := L) (f := f) (s := bringLaneUp L s) h
    rw [ht] at hdropped hcatchUp
    have hsame := (bringLaneUp_handledAlike L f.origin s).trans hdropped
    exact ⟨hsame.zoneStore, hsame.heads, hsame.occupancy, hcatchUp.trans (bringLaneUp_alike L s).catchUp, hsame.announcement⟩
  · rw [← ht]
    apply State.eq_of_fields <;> simp

/-! ## Station conflicts -/

/-- What a station conflict raises, beside what it does to the phase (R39). -/
theorem stationConflict_events (n : Station) (s : State) :
    (s.node.phase ≠ .loading → (stationConflict n s).events.records.stationConflict = some n) ∧
    (stationConflict n s).events.records.peerRestart = s.events.records.peerRestart ∧
    (stationConflict n s).events.records.peerJoined = s.events.records.peerJoined := by
  unfold stationConflict
  cases s.node.phase with
  | loading => exact ⟨fun h => absurd rfl h, rfl, rfl⟩
  | _ => exact ⟨fun _ => rfl, rfl, rfl⟩

theorem enterMute_handledAlike (n m : Station) (s : State) (h : s.node.phase.headsFollow = true) : HandledAlike m s (enterMute n s) :=
  ⟨rfl, rfl, rfl, h.symm, rfl, rfl, rfl, rfl, fun _ _ => rfl⟩

/-- The heads of a node that a conflict mutes go on as before. -/
theorem stationConflict_handledAlike (n m : Station) (s : State) : HandledAlike m s (stationConflict n s) := by
  have hraised : HandledAlike m s (raise (.stationConflict n) s) := ⟨rfl, rfl, rfl, rfl, rfl, rfl, rfl, rfl, fun _ _ => rfl⟩
  unfold stationConflict
  split
  · exact .refl s
  · exact hraised
  · next h => exact enterMute_handledAlike n m s (by rw [h]; rfl)
  · next h => exact enterMute_handledAlike n m s (by rw [h]; rfl)
  · next h => exact enterMute_handledAlike n m s (by rw [h]; rfl)
  · exact hraised

theorem stationConflict_mutes (n : Station) (s : State) (h : s.node.phase = .listen ∨ s.node.phase = .catchUp ∨ s.node.phase = .running) :
    stationConflict n s = enterMute n s := by
  unfold stationConflict
  rcases h with h | h | h <;> rw [h]

/-- In COMMISSION and MUTE a conflict is an event and no more. -/
theorem stationConflict_alike (n : Station) (s : State) (h : s.node.phase = .commission ∨ s.node.phase = .mute) :
    Alike s (stationConflict n s) := by
  unfold stationConflict
  rcases h with h | h <;> rw [h] <;> exact ⟨rfl, rfl, rfl, rfl, rfl, rfl, rfl, rfl, fun _ _ => rfl⟩

theorem strikeEntry_empty (z : ZoneStore) (e : SyncEntry) : strikeEntry z 0 e = 0 := by
  unfold strikeEntry
  split <;> simp

theorem strikeAnswers_idle (entries : List SyncEntry) (s : State) (ha : s.catchUp.answers = 0) (hb : s.catchUp.backoff = .stopped) :
    strikeAnswers entries s = s.setCatchUp s.catchUp := by
  have hanswers : entries.foldl (strikeEntry s.zoneStore) s.catchUp.answers = s.catchUp.answers := by
    rw [ha]
    exact foldl_inv (fun answers => answers = 0) _ (fun b e hzero => by rw [hzero, strikeEntry_empty]) entries 0 rfl
  unfold strikeAnswers
  dsimp only
  rw [hanswers, if_pos ha, ← hb]

/-- Outside RUNNING, with no answer pending, no frame moves the Catch-Up Unit (R105, R107). -/
theorem acceptFrame_catchUp_idle (f : Frame) (s : State) (hp : s.node.phase ≠ .running) (ha : s.catchUp.answers = 0)
    (hb : s.catchUp.backoff = .stopped) : (acceptFrame f s).catchUp = s.catchUp := by
  have hraised : (raiseClock f.stamp s).catchUp = s.catchUp := by simp
  unfold acceptFrame handleFrame
  split
  · simp
  · simp
  · simp
  · simp
  · rw [acceptAsk, if_neg (by simpa using hp), hraised]
  · next entries _ =>
    have hmerged : (mergeEntries entries (raiseClock f.stamp s)).catchUp = s.catchUp := by
      rw [← hraised]
      exact foldl_keep State.catchUp _ (fun s e => by simp) entries _
    rw [acceptEntries_eq, strikeAnswers_idle entries _ (by rw [hmerged, ha]) (by rw [hmerged, hb])]
    exact hmerged

section
variable (L : Lane) (f : Frame) (v : Verdict × OriginEntry) (s : State)

/-- A muted node's Catch-Up Unit stays as its entry of MUTE left it. -/
theorem takenFrame_muted (n : Station) : (takenFrame L f v (enterMute n s)).catchUp = (enterMute n s).catchUp := by
  have hcatchUp : (judgedFrame L f v (heardAfter L f (enterMute n s))).catchUp = (enterMute n s).catchUp := by simp
  have hnode : (judgedFrame L f v (heardAfter L f (enterMute n s))).node = (enterMute n s).node := by simp
  unfold takenFrame
  split
  · rw [acceptFrame_catchUp_idle f _ (by rw [hnode]; exact Phase.noConfusion) (by rw [hcatchUp]; rfl) (by rw [hcatchUp]; rfl), hcatchUp]
  · exact hcatchUp

end

/-- Settles O24: the frame taken, its lane brought UP and the conflict reported. -/
theorem stationConflictMutes : Obligations.StationConflictMutes := by
  unfold Obligations.StationConflictMutes
  intro L bytes f s hforeign hown
  have hbase : HandledAlike f.origin s (reportedFrame L f s) := by
    rw [reportedFrame, if_pos hown]
    exact (bringLaneUp_handledAlike L f.origin s).trans (stationConflict_handledAlike _ _ _)
  have hreported : reportedFrame L f s = stationConflict f.origin (bringLaneUp L s) := if_pos hown
  have hnode : (bringLaneUp L s).node = s.node := by simp
  have hcatchUp : (bringLaneUp L s).catchUp = s.catchUp := by simp
  have htx : (bringLaneUp L s).tx = s.tx := by simp
  have hpresence : (reportedFrame L f s).presence = s.presence := by simp [hreported]
  have hcounters : (reportedFrame L f s).counters = s.counters := by simp [hreported]
  have hfilter : (reportedFrame L f s).filter = s.filter := by simp [hreported]
  obtain ⟨hconflict, hrestart, hjoined⟩ := stationConflict_events f.origin (bringLaneUp L s)
  obtain ⟨hrestart', hjoined'⟩ := bringLaneUp_otherEvents L s
  rw [hnode] at hconflict
  rw [← hreported] at hconflict hrestart hjoined
  have htaken := takeGood_eq L f s
  generalize filterJudges L f s = v at htaken
  generalize ht : takenFrame L f v (reportedFrame L f s) = t at htaken
  obtain ⟨_, _, hframeTx, _, hframeNode, _⟩ := takenFrame_frame L f v (reportedFrame L f s)
  rw [ht] at hframeTx hframeNode
  have hhearing := takenFrame_hearing L f v (reportedFrame L f s)
  rw [hpresence, ht] at hhearing
  have hlaneCount (c : LaneCounter) := takenFrame_lane L f v (reportedFrame L f s) c
  have hrestarts := takenFrame_restarts L f v (reportedFrame L f s)
  simp only [hcounters, ht] at hlaneCount hrestarts
  obtain ⟨hframeRestart, hframeJoined, _, hframeConflict⟩ := takenFrame_events L f v (reportedFrame L f s)
  rw [hrestart, hrestart', ht] at hframeRestart
  rw [hpresence, hjoined, hjoined', ht] at hframeJoined
  rw [ht] at hframeConflict
  refine ⟨t, (exec_foreign L bytes f s hforeign).trans (by rw [htaken]), ?_, fun hp => hframeConflict.trans (hconflict hp), fun hp => ?_,
    fun hp => ?_, fun hself => ?_, fun n hn => ?_, ?_, fun n => ?_, ?_, ?_, ?_, hrestarts, hframeRestart, fun h => ?_, fun h => ?_, ?_⟩
  · rw [hlaneCount, if_pos (.inl rfl)]
  · have hmuted : reportedFrame L f s = enterMute f.origin (bringLaneUp L s) := by
      rw [hreported, stationConflict_mutes _ _ (by rw [hnode]; exact hp)]
    have hunit := takenFrame_muted L f v (bringLaneUp L s) f.origin
    rw [← hmuted, ht] at hunit
    rw [hframeNode, hframeTx, hunit, hmuted]
    refine ⟨?_, ?_, rfl, rfl, rfl, rfl, rfl, ?_, ?_⟩
    · rw [← hnode]; rfl
    · rw [← htx]; rfl
    · rw [← hcatchUp]; rfl
    · rw [← hcatchUp]; rfl
  · have hsame := stationConflict_alike f.origin (bringLaneUp L s) (by rw [hnode]; exact hp)
    exact ⟨by rw [hframeNode, hreported, hsame.node, hnode], by rw [hframeTx, hreported, hsame.tx, htx]⟩
  · rw [if_pos hself] at hhearing
    refine ⟨congrArg (·.1) hhearing, congrArg (·.2.1) hhearing, congrArg (·.2.2.1) hhearing, congrArg (·.2.2.2) hhearing, ?_, ?_⟩
    · cases h : v.1.accepts with
      | true => exact ht ▸ (takenFrame_accepted (L := L) hbase h).announcement
      | false => exact ht ▸ (hbase.trans (takenFrame_dropped (L := L) h).1).announcement
    · exact hframeJoined.trans (if_neg (by rw [hself]; decide))
  · rw [← ht, takenFrame_others L f v _ n hn, hpresence]
  · rw [← ht, (takenFrame_frame L f v _).2.2.2.2.2.2.2.2, hfilter]
  · rw [← ht, takenFrame_entry, hfilter]
  · rw [hlaneCount]
    by_cases htag : f.laneTag = L <;> simp [htag]
  · rw [hlaneCount]
    exact if_congr (by simp) rfl rfl
  · rw [hlaneCount]
    exact if_congr (by simp) rfl rfl
  · have hhandled := takenFrame_accepted (L := L) hbase h
    rw [ht] at hhandled
    refine ⟨hhandled.zoneStore, hhandled.heads, hhandled.occupancy, fun hp => ?_, hhandled.counts, hhandled.zoneChanged,
      hhandled.occupancyChanged, hhandled.libraryMismatch⟩
    have hsame := (bringLaneUp_alike L s).trans (stationConflict_alike f.origin _ (by rw [hnode]; exact hp))
    rw [← ht, takenFrame_catchUp (hreported ▸ hsame) h]
  · obtain ⟨hdropped, hunit⟩ := takenFrame_dropped (L := L) (f := f) (s := reportedFrame L f s) h
    rw [ht] at hdropped hunit
    have hsame := hbase.trans hdropped
    refine ⟨hsame.zoneStore, hsame.heads, hsame.occupancy, fun hp => ?_⟩
    rw [hunit, hreported, (stationConflict_alike f.origin _ (by rw [hnode]; exact hp)).catchUp, hcatchUp]
  · rw [← ht]
    apply State.eq_of_fields <;> simp [hreported]

end Sys2Proof.Machine
end

section
/-! The soundness of every step, its parts: the node whose LOADING has ended, the node in LOADING, and the blocks that publications and frames act on: O5. -/

namespace Sys2Proof.Machine

open Sys2Proof

/-! ## Soundness before and after the end of LOADING -/

/-- The Node Controller and the supply of a node whose LOADING has ended (R159, R162). -/
structure NodeSound (n : NodeController) (pins : Pins) : Prop where
  ended : n.loading = .ended
  out : n.phase ≠ .loading
  powered : pins.supply = true
  released : pins.resetLine = false
  station : n.phase.headsFollow = true → n.station.isSome = true
  listening : n.phase = .listen → n.listenExpiries ≤ 1

/-- The Catch-Up Unit as the phase allows it (R100, R106, R110). -/
structure UnitSound (p : Phase) (u : CatchUpUnit) : Prop where
  heldList : p ≠ .listen → p ≠ .catchUp → u.held = []
  asker : p.allowsAsker u.asker = true
  window : u.window.isRunning = true ↔ u.asker = .window
  backoff : u.backoff.isRunning = true ↔ u.answers ≠ 0
  answers : p ≠ .running → u.answers = 0
  room : u.held.length ≤ heldRoom
  occupies : u.held.countP HeldRequest.isOccupy ≤ 1

/-- The blocks that publications and accepted frames act on, sound together. -/
structure ActingSound (s : State) : Prop where
  clock : ClockSound s
  queue : QueueSound s
  occupancy : OccupancySound s
  heads : HeadsSound s

/-- Soundness of a node whose LOADING has ended. -/
structure Working (s : State) : Prop where
  node : NodeSound s.node s.pins
  array : StoreWf s
  /-- A byte write is under way in COMMISSION alone (R190). -/
  idle : s.node.phase ≠ .commission → s.store.write = .idle
  unit : UnitSound s.node.phase s.catchUp
  silent : s.node.phase.silent = true → s.tx.records = []
  acting : ActingSound s
  lanes : LanesSound s
  peers : PeersSound s
  inputs : InputsSound s

/-- Soundness of a node held at reset or in LOADING: the blocks at their reset values are sound by themselves. -/
structure Starting (s : State) : Prop where
  stage : s.node.loading ≠ .ended
  phase : s.node.phase = .loading
  held : s.node.loading = .held ↔ s.pins.supply = false ∨ s.pins.resetLine = true
  closed : s.node.loading = .held → s.port = .closed
  array : StoreWf s
  write : WriteSound s
  quiet : LoadingQuiet s

theorem Sound.working {s : State} (h : Sound s) (he : s.node.loading = .ended) : Working s := by
  have hout : s.node.phase ≠ .loading := fun hp => h.phase.loading.mp hp he
  have hpowered : ¬ (s.pins.supply = false ∨ s.pins.resetLine = true) := fun hd => by
    have hheld := h.phase.held.mpr hd
    rw [he] at hheld
    cases hheld
  rw [not_or, Bool.not_eq_false, Bool.not_eq_true] at hpowered
  refine
    { node := ⟨he, hout, hpowered.1, hpowered.2, h.phase.station, h.phase.listening⟩
      array := h.store
      idle := fun hp => ?_
      unit := ⟨h.phase.heldList, h.phase.asker, h.phase.window, h.phase.backoff, h.phase.answers, h.held.1, h.held.2⟩
      silent := h.phase.queue
      acting := ⟨h.clock, h.queue, h.occupancy, h.heads⟩
      lanes := h.lanes
      peers := h.peers
      inputs := h.inputs }
  cases hw : s.store.write with
  | idle => rfl
  | writing a v n =>
    rcases h.write.where_ a v n hw with hc | ⟨hl, _⟩
    · exact absurd hc hp
    · exact absurd hl hout

theorem Working.sound {s : State} (h : Working s) : Sound s where
  store := h.array
  phase :=
    { loading := iff_of_false h.node.out (not_not.mpr h.node.ended)
      held := iff_of_false (by simp [h.node.ended]) (by simp [h.node.powered, h.node.released])
      closed := fun hheld => absurd hheld (by simp [h.node.ended])
      station := h.node.station
      listening := h.node.listening
      queue := h.silent
      heldList := h.unit.heldList
      asker := h.unit.asker
      window := h.unit.window
      backoff := h.unit.backoff
      answers := h.unit.answers }
  loading := fun hne => absurd h.node.ended hne
  write :=
    { where_ := fun a v n hw => .inl (by
        by_contra hp
        rw [h.idle hp] at hw
        cases hw)
      under := fun found hf => absurd hf (by simp [h.node.ended])
      percents := fun c hf => absurd hf (by simp [h.node.ended]) }
  clock := h.acting.clock
  queue := h.acting.queue
  held := ⟨h.unit.room, h.unit.occupies⟩
  lanes := h.lanes
  peers := h.peers
  occupancy := h.acting.occupancy
  inputs := h.inputs
  heads := h.acting.heads

theorem Sound.starting {s : State} (h : Sound s) (he : s.node.loading ≠ .ended) : Starting s :=
  ⟨he, h.phase.loading.mpr he, h.phase.held, h.phase.closed, h.store, h.write, h.loading⟩

theorem Starting.sound {s : State} (h : Starting s) : Sound s := by
  obtain ⟨hlanes, _, hpresence, hzones, hunit, htx, hoccupancy, hinputs, hheads, _, hstation⟩ := h.quiet h.stage
  refine
    { store := h.array
      phase := ⟨iff_of_true h.phase h.stage, h.held, h.closed, fun hf => ?_, fun hl => ?_, fun _ => by rw [htx]; rfl, fun _ _ => by rw [hunit]; rfl,
        by rw [h.phase, hunit]; rfl, by rw [hunit]; decide, by rw [hunit]; decide, fun _ => by rw [hunit]; rfl⟩
      loading := h.quiet
      write := h.write
      clock := ?_
      queue := queueSound_empty s (by rw [htx]; rfl)
      held := heldSound_empty s (by rw [hunit]; rfl)
      lanes := fun L => ?_
      peers := fun n => ?_
      occupancy := fun z => ?_
      inputs := fun i => ?_
      heads := fun ch => ?_ }
  · rw [h.phase] at hf
    cases hf
  · rw [h.phase] at hl
    cases hl
  · unfold ClockSound
    rw [hzones]
    exact reset_clockSound
  · rw [hlanes]
    cases L <;> rfl
  · rw [hpresence, hstation]
    exact reset_peersSound n
  · rw [hoccupancy]
    exact ⟨(reset_occupancySound z).1, fun hc => absurd hc (by simp [h.phase])⟩
  · rw [hinputs]
    exact ⟨(reset_inputsSound i).1, fun hc => absurd hc (by simp [h.phase])⟩
  · rw [hheads]
    exact ⟨(reset_headsSound ch).1, (reset_headsSound ch).2.1, fun _ => (reset_headsSound ch).2.2 (by decide)⟩

/-! ## What each part reads -/

theorem ClockSound.congr {s t : State} (h : ClockSound s) (hz : t.zoneStore = s.zoneStore) : ClockSound t := by
  unfold ClockSound
  rw [hz]
  exact h

theorem QueueSound.congr {s t : State} (h : QueueSound s) (ht : t.tx = s.tx) (hl : t.lanes = s.lanes) : QueueSound t := by
  constructor
  · rw [ht]; exact h.room
  · rw [ht]; exact h.live
  · rw [ht]; exact h.flying
  · rw [ht, hl]; exact h.copies
  · rw [ht]; exact h.presence

theorem OccupancySound.congr {s t : State} (h : OccupancySound s) (ho : t.occupancy = s.occupancy)
    (hc : t.node.phase = .commission → s.node.phase = .commission) : OccupancySound t := by
  intro z
  rw [ho]
  exact ⟨(h z).1, fun hp => (h z).2 (hc hp)⟩

theorem HeadsSound.congr {s t : State} (h : HeadsSound s) (hh : t.heads = s.heads)
    (hc : s.node.phase = .commission → t.node.phase = .commission) : HeadsSound t := by
  intro ch
  rw [hh]
  exact ⟨(h ch).1, (h ch).2.1, fun hp => (h ch).2.2 fun hs => hp (hc hs)⟩

theorem ActingSound.congr {s t : State} (h : ActingSound s) (hz : t.zoneStore = s.zoneStore) (ht : t.tx = s.tx) (hl : t.lanes = s.lanes)
    (ho : t.occupancy = s.occupancy) (hh : t.heads = s.heads) (hc : t.node.phase = .commission ↔ s.node.phase = .commission) :
    ActingSound t :=
  ⟨h.clock.congr hz, h.queue.congr ht hl, h.occupancy.congr ho hc.mp, h.heads.congr hh hc.mpr⟩

/-- `t` differs from `s` at most in the blocks of `ActingSound`, the filter, the counters, the events, the port and the commands waiting. -/
structure SameFrame (s t : State) : Prop where
  pins : t.pins = s.pins
  lanes : t.lanes = s.lanes
  presence : t.presence = s.presence
  catchUp : t.catchUp = s.catchUp
  inputs : t.inputs = s.inputs
  node : t.node = s.node
  store : t.store = s.store

theorem SameFrame.trans {s t u : State} (h : SameFrame s t) (h' : SameFrame t u) : SameFrame s u :=
  ⟨h'.pins.trans h.pins, h'.lanes.trans h.lanes, h'.presence.trans h.presence, h'.catchUp.trans h.catchUp, h'.inputs.trans h.inputs,
    h'.node.trans h.node, h'.store.trans h.store⟩

namespace Working
variable {s t : State}

/-- A node that has acted soundly, all else as it was, is sound. -/
theorem acted (h : Working s) (hf : SameFrame s t) (ha : ActingSound t) (hq : s.node.phase.silent = true → t.tx.records = []) :
    Working t where
  node := by rw [hf.node, hf.pins]; exact h.node
  array := by unfold StoreWf; rw [hf.store]; exact h.array
  idle := by rw [hf.node, hf.store]; exact h.idle
  unit := by rw [hf.node, hf.catchUp]; exact h.unit
  silent := by rw [hf.node]; exact hq
  acting := ha
  lanes := by unfold LanesSound; rw [hf.lanes, hf.pins]; exact h.lanes
  peers := by unfold PeersSound; rw [hf.presence, hf.node]; exact h.peers
  inputs := by unfold InputsSound; rw [hf.inputs, hf.node]; exact h.inputs

/-- Nothing that soundness reads has moved. -/
theorem congr (h : Working s) (hf : SameFrame s t) (hz : t.zoneStore = s.zoneStore) (ht : t.tx = s.tx) (ho : t.occupancy = s.occupancy)
    (hh : t.heads = s.heads) : Working t :=
  h.acted hf (h.acting.congr hz ht hf.lanes ho hh (by rw [hf.node])) (fun hq => by rw [ht]; exact h.silent hq)

/-! One block written. -/

theorem setFilter (h : Working s) (x : DuplicateFilter) : Working (s.setFilter x) :=
  h.congr ⟨rfl, rfl, rfl, rfl, rfl, rfl, rfl⟩ rfl rfl rfl rfl

theorem setCounters (h : Working s) (x : CounterBank) : Working (s.setCounters x) :=
  h.congr ⟨rfl, rfl, rfl, rfl, rfl, rfl, rfl⟩ rfl rfl rfl rfl

theorem setEvents (h : Working s) (x : EventUnit) : Working (s.setEvents x) :=
  h.congr ⟨rfl, rfl, rfl, rfl, rfl, rfl, rfl⟩ rfl rfl rfl rfl

theorem setPort (h : Working s) (x : Transaction) : Working (s.setPort x) :=
  h.congr ⟨rfl, rfl, rfl, rfl, rfl, rfl, rfl⟩ rfl rfl rfl rfl

theorem setPending (h : Working s) (x : List Instr) : Working (s.setPending x) :=
  h.congr ⟨rfl, rfl, rfl, rfl, rfl, rfl, rfl⟩ rfl rfl rfl rfl

theorem raise (h : Working s) (e : Event) : Working (raise e s) := h.setEvents _

theorem countAt (h : Working s) (i : Fin 28) : Working (countAt i s) :=
  h.congr ⟨by simp, by simp, by simp, by simp, by simp, by simp, by simp⟩ (by simp) (by simp) (by simp) (by simp)

theorem countLane (h : Working s) (L : Lane) (c : LaneCounter) : Working (countLane L c s) := h.countAt _

theorem countNode (h : Working s) (c : NodeCounter) : Working (countNode c s) := h.countAt _

theorem setStore (h : Working s) (x : ConfigStore) (hwf : Memory.wf x.array = true ∧ x.pointer ≤ Config.storeBytes)
    (hi : s.node.phase ≠ .commission → x.write = .idle) : Working (s.setStore x) :=
  ⟨h.node, hwf, hi, h.unit, h.silent, h.acting.congr rfl rfl rfl rfl rfl Iff.rfl, h.lanes, h.peers, h.inputs⟩

theorem setCatchUp (h : Working s) (x : CatchUpUnit) (hu : UnitSound s.node.phase x) : Working (s.setCatchUp x) :=
  ⟨h.node, h.array, h.idle, hu, h.silent, h.acting.congr rfl rfl rfl rfl rfl Iff.rfl, h.lanes, h.peers, h.inputs⟩

theorem setPresence (h : Working s) (x : PresenceMonitor) (hp : PeersSound (s.setPresence x)) : Working (s.setPresence x) :=
  ⟨h.node, h.array, h.idle, h.unit, h.silent, h.acting.congr rfl rfl rfl rfl rfl Iff.rfl, h.lanes, hp, h.inputs⟩

theorem setInputs (h : Working s) (x : InputUnit) (hi : InputsSound (s.setInputs x)) : Working (s.setInputs x) :=
  ⟨h.node, h.array, h.idle, h.unit, h.silent, h.acting.congr rfl rfl rfl rfl rfl Iff.rfl, h.lanes, h.peers, hi⟩

theorem setHeads (h : Working s) (x : HeadUnit) (hh : HeadsSound (s.setHeads x)) : Working (s.setHeads x) :=
  ⟨h.node, h.array, h.idle, h.unit, h.silent,
    ⟨h.acting.clock, h.acting.queue.congr rfl rfl, h.acting.occupancy, hh⟩, h.lanes, h.peers, h.inputs⟩

theorem setTx (h : Working s) (x : TransmitQueue) (hq : QueueSound (s.setTx x)) (hs : s.node.phase.silent = true → x.records = []) :
    Working (s.setTx x) :=
  ⟨h.node, h.array, h.idle, h.unit, hs, ⟨h.acting.clock, hq, h.acting.occupancy, h.acting.heads⟩, h.lanes, h.peers, h.inputs⟩

theorem setPins (h : Working s) (x : Pins) (hp : x.supply = s.pins.supply ∧ x.resetLine = s.pins.resetLine)
    (hl : LanesSound (s.setPins x)) : Working (s.setPins x) :=
  ⟨⟨h.node.ended, h.node.out, hp.1.trans h.node.powered, hp.2.trans h.node.released, h.node.station, h.node.listening⟩, h.array, h.idle,
    h.unit, h.silent, h.acting.congr rfl rfl rfl rfl rfl Iff.rfl, hl, h.peers, h.inputs⟩

/-- The lanes moved: the queue's copies and the fault lines must bear it. -/
theorem setLanes (h : Working s) (x : PerLane LaneInterface) (hl : LanesSound (s.setLanes x))
    (hc : ∀ L, s.tx.records.all
      (fun r => copySound (x.get L).state r.payload.isPresence (r.copies.get L) (r.attempts.get L)) = true) : Working (s.setLanes x) :=
  ⟨h.node, h.array, h.idle, h.unit, h.silent,
    ⟨h.acting.clock, ⟨h.acting.queue.room, h.acting.queue.live, h.acting.queue.flying, hc, h.acting.queue.presence⟩, h.acting.occupancy,
      h.acting.heads⟩, hl, h.peers, h.inputs⟩

end Working

end Sys2Proof.Machine
end

section
/-! The soundness of every step: publications and accepted frames: O5. -/

namespace Sys2Proof.Machine

open Sys2Proof

namespace ActingSound
variable {s : State}

/-! ## Settings -/

theorem raise (h : ActingSound s) (e : Event) : ActingSound (raise e s) := h.congr rfl rfl rfl rfl rfl Iff.rfl

theorem countAt (h : ActingSound s) (i : Fin 28) : ActingSound (countAt i s) :=
  h.congr (by simp) (by simp) (by simp) (by simp) (by simp) (by simp)

theorem setCatchUp (h : ActingSound s) (x : CatchUpUnit) : ActingSound (s.setCatchUp x) := h.congr rfl rfl rfl rfl rfl Iff.rfl

theorem setTx (h : ActingSound s) (x : TransmitQueue) (hq : QueueSound (s.setTx x)) : ActingSound (s.setTx x) :=
  ⟨h.clock, hq, h.occupancy, h.heads⟩

theorem setZoneStore (h : ActingSound s) (x : ZoneStore) (hc : ClockSound (s.setZoneStore x)) : ActingSound (s.setZoneStore x) :=
  ⟨hc, h.queue.congr rfl rfl, h.occupancy, h.heads⟩

theorem recomputeWhere (h : ActingSound s) (p : Zone → Bool) (code : FadeCode) : ActingSound (recomputeWhere p code s) where
  clock := h.clock.congr (by simp)
  queue := h.queue.congr (by simp) (by simp)
  occupancy := h.occupancy.congr (by simp) (by simp)
  heads := recomputeWhere_sound p code s h.heads h.occupancy

theorem raiseClock (h : ActingSound s) (x : Word32) : ActingSound (raiseClock x s) := by
  obtain ⟨hstore, hclock⟩ := raiseClock_zoneStore x s
  refine ⟨⟨fun z e he => ?_, fun hx => ?_⟩, h.queue.congr (by simp) (by simp), h.occupancy.congr (by simp) (by simp),
    h.heads.congr (by simp) (by simp)⟩
  · rw [hstore] at he
    have := h.clock.1 z e he
    omega
  · rw [hstore] at hx
    have hmax := congrArg BitVec.toNat (h.clock.2 hx)
    have hx := x.isLt
    apply BitVec.eq_of_toNat_eq
    simp only [maxWord, BitVec.toNat_ofNat] at hmax ⊢
    omega

theorem merge (h : ActingSound s) (z : Zone) (x : Setting) : ActingSound (merge z x s) where
  clock := merge_clockSound z x s h.clock
  queue := h.queue.congr (by simp) (by simp)
  occupancy := h.occupancy.congr (by simp) (by simp)
  heads := by
    have hraised := h.raiseClock x.stamp
    have hreplaced : HeadsSound (replaceEntry z x (Machine.raiseClock x.stamp s)) :=
      recomputeWhere_sound _ _ _ (hraised.heads.congr rfl id) (hraised.occupancy.congr rfl id)
    unfold Machine.merge
    dsimp only
    split
    · exact hreplaced
    · split
      · exact hreplaced
      · split
        · exact hraised.heads
        · exact (hraised.countAt _).heads

theorem mergeLook (h : ActingSound s) (look : Look) (stamp : Word32) (origin : Station) : ActingSound (mergeLook look stamp origin s) :=
  foldl_inv ActingSound _ (fun _ _ hs => hs.merge _ _) _ s h

theorem mergeEntries (h : ActingSound s) (entries : List SyncEntry) : ActingSound (mergeEntries entries s) :=
  foldl_inv ActingSound _ (fun _ _ hs => hs.merge _ _) _ s h

/-- The clock's next value, or its end with CLOCK_EXHAUSTED (R6). -/
theorem takeStamp (h : ActingSound s) : ActingSound (takeStamp s).2 := by
  unfold Machine.takeStamp
  split
  · next hend => exact h.setZoneStore _ ⟨h.clock.1, fun _ => hend⟩
  · next hnext =>
    refine h.setZoneStore _ ⟨fun z x hx => ?_, fun hx => absurd (h.clock.2 hx) hnext⟩
    have := h.clock.1 z x hx
    simp only [State.setZoneStore_zoneStore, maxWord] at hnext ⊢
    bv_omega

/-! ## Occupancy -/

theorem occupancySound_put (h : OccupancySound s) (z : Zone) (r : OccupancyRecord) (hr : recordSound s.occupancy.config[z] r = true)
    (hc : s.node.phase = .commission → r.state = .follow) : OccupancySound (putOccupancy z r s) := by
  intro y
  show recordSound s.occupancy.config[y] (update s.occupancy.records z r)[y] = true ∧
    (s.node.phase = .commission → (update s.occupancy.records z r)[y].state = .follow)
  rw [update_get]
  split
  · next hy =>
    subst hy
    exact ⟨hr, hc⟩
  · exact h y

theorem putOccupancy (h : ActingSound s) (z : Zone) (r : OccupancyRecord) (hr : recordSound s.occupancy.config[z] r = true)
    (hc : s.node.phase = .commission → r.state = .follow) : ActingSound (putOccupancy z r s) :=
  ⟨h.clock, h.queue.congr rfl rfl, occupancySound_put h.occupancy z r hr hc, h.heads⟩

theorem changeOccupancy (h : ActingSound s) (z : Zone) (r : OccupancyRecord) (hr : recordSound s.occupancy.config[z] r = true)
    (hc : s.node.phase = .commission → r.state = .follow) : ActingSound (changeOccupancy z r s) := by
  have hput := (h.putOccupancy z r hr hc).raise (.occupancyChanged (oneOf z))
  unfold Machine.changeOccupancy
  dsimp only
  split
  · exact hput.recomputeWhere _ _
  · split
    · exact hput.recomputeWhere _ _
    · exact hput

/-- A record woken is sound where its zone's occupancy is enabled (R122). -/
theorem woken_sound (cfg : OccupancyConfig) (r : OccupancyRecord) (cause : WakeCause) (overtaken : Bool) (h : recordSound cfg r = true)
    (hr : r.state ≠ .follow) :
    recordSound cfg { state := .occupied, timer := .running (graceTime cfg.grace), cause := cause, overtaken := overtaken } = true := by
  simp only [recordSound, Bool.and_eq_true, Bool.or_eq_true, beq_iff_eq, decide_eq_true_eq] at h ⊢
  obtain ⟨⟨⟨hpercent, henable⟩, _⟩, _⟩ := h
  exact ⟨⟨⟨hpercent, .inl (henable.resolve_right hr)⟩, .inr ⟨trivial, trivial⟩⟩, rfl⟩

theorem wake (h : ActingSound s) (cause : WakeCause) (z : Zone) : ActingSound (wake cause z s) := by
  obtain ⟨hrecord, hfollow⟩ := h.occupancy z
  have hwoken := woken_sound _ _ cause s.occupancy.records[z].graceDue hrecord
  unfold Machine.wake fullGrace
  dsimp only
  split
  · exact h
  · next hs => exact h.putOccupancy z _ (hwoken (by rw [hs]; decide)) (fun hp => absurd (hfollow hp) (by rw [hs]; decide))
  · next hs => exact h.changeOccupancy z _ (hwoken (by rw [hs]; decide)) (fun hp => absurd (hfollow hp) (by rw [hs]; decide))
  · next hs => exact h.changeOccupancy z _ (hwoken (by rw [hs]; decide)) (fun hp => absurd (hfollow hp) (by rw [hs]; decide))

theorem wakeAll (h : ActingSound s) (cause : WakeCause) (zones : List Zone) : ActingSound (wakeAll cause zones s) :=
  foldl_inv ActingSound _ (fun _ _ hs => hs.wake _ _) _ s h

/-! ## The queue -/

theorem dropRecord (h : ActingSound s) : ActingSound (dropRecord s) := (h.countAt _).raise _

theorem enterRecord (h : ActingSound s) (p : Payload) (stamp : Word32) (hr : s.tx.records.length < 16) (hp : anyPending p s)
    (hq : p.isPresence = true → s.tx.records.countP (fun r => r.payload.isPresence) = 0) :
    ActingSound (enterRecord p stamp (newCopies p.isPresence s) s) :=
  h.setTx _ (queueSound_enter p stamp s h.queue hr hp hq)

/-- An offered record enters, displaces another or leaves the queue as it is (R85, R86). -/
theorem offerRecord (h : ActingSound s) (p : Payload) (stamp : Word32)
    (hq : p.isPresence = true → s.tx.records.countP (fun r => r.payload.isPresence) = 0) : ActingSound (offerRecord p stamp s).state := by
  unfold Machine.offerRecord
  dsimp only
  split
  · split
    · exact h.countAt _
    · exact h
  · next hpending =>
    have hp : anyPending p s := by unfold anyPending; tauto
    split
    · next hroom => exact h.enterRecord p stamp hroom hp hq
    · split
      · next hurgent =>
        split
        · next gone left hd =>
          obtain ⟨older, younger, hold, hleft, _⟩ := displaceNewest_some _ _ _ hd
          have hsub : left.Sublist s.tx.records := by
            rw [hold, hleft]
            exact (List.sublist_cons_self gone younger).append_left older
          have hlen : left.length + 1 = s.tx.records.length := by
            rw [hold, hleft, List.length_append, List.length_append, List.length_cons]
            omega
          have hshrunk := (h.setTx { s.tx with records := left } (queueSound_shrink s left hsub h.queue)).dropRecord
          have htx : (Machine.dropRecord (s.setTx { s.tx with records := left })).tx.records = left := by simp [Machine.dropRecord]
          have hcopies : newCopies p.isPresence (Machine.dropRecord (s.setTx { s.tx with records := left })) = newCopies p.isPresence s := by
            simp [newCopies, Machine.dropRecord]
          have hfull := h.queue.room
          unfold queueRoom at hfull
          have hentered := hshrunk.enterRecord p stamp (by rw [htx]; omega) (by unfold anyPending; rw [hcopies]; exact hp)
            (fun hpresence => by
              have hzero := hq hpresence
              rw [htx]
              exact Nat.eq_zero_of_le_zero (hzero ▸ hsub.countP_le))
          rw [hcopies] at hentered
          exact hentered
        · exact h.dropRecord
      · exact h.dropRecord

/-- An offer of any record but a PRESENCE. -/
theorem offer (h : ActingSound s) (p : Payload) (stamp : Word32) (hp : p.isPresence = false) :
    ActingSound (Machine.offerRecord p stamp s).state :=
  h.offerRecord p stamp fun ht => absurd ht (by simp [hp])

/-- A PRESENCE is created where none is queued (R71). -/
theorem createPresence (h : ActingSound s) : ActingSound (createPresence s) := by
  unfold Machine.createPresence
  split
  · exact h
  · split
    · exact h
    · next hnone =>
      refine h.offerRecord _ _ fun _ => ?_
      rw [List.countP_eq_zero]
      intro r hr hpresence
      have hlive := List.all_eq_true.mp h.queue.live r hr
      exact hnone (List.any_eq_true.mpr ⟨r, hr, by simp [hpresence, hlive]⟩)

/-! ## Publications -/

theorem performSet (h : ActingSound s) (z : Zone) (c : Colour) (l : Byte) (f : FadeCode) (w : Bool) (cause : WakeCause) :
    ActingSound (performSet z c l f w cause s).state := by
  have hstamped := h.takeStamp
  unfold Machine.performSet
  split
  · next heq => simpa [heq] using hstamped
  · next stamp stamped heq =>
    rw [heq] at hstamped
    have hmerged := hstamped.merge z ⟨c, l, f, stamp, ownStation s, .set⟩
    dsimp only [publishedBy]
    cases w
    · exact hmerged.offer _ _ rfl
    · exact (hmerged.wake cause z).offer _ _ rfl

theorem performRecall (h : ActingSound s) (k : Look) (w : Bool) (cause : WakeCause) : ActingSound (performRecall k w cause s).state := by
  have hstamped := h.takeStamp
  unfold Machine.performRecall
  split
  · exact h
  · split
    · next heq => simpa [heq] using hstamped
    · next stamp stamped heq =>
      rw [heq] at hstamped
      have hmerged := hstamped.mergeLook k stamp (ownStation s)
      dsimp only [publishedBy]
      cases w
      · exact hmerged.offer _ _ rfl
      · exact (hmerged.wakeAll cause _).offer _ _ rfl

theorem performOccupy (h : ActingSound s) (zones : ZoneSet) (cause : WakeCause) : ActingSound (performOccupy zones cause s).state :=
  (h.wakeAll cause (members zones)).offer _ _ rfl

theorem performHeld (h : ActingSound s) (r : HeldRequest) : ActingSound (performHeld r s).state := by
  cases r with
  | set z c l f w cause => exact h.performSet z c l f w cause
  | occupy zones cause => exact h.performOccupy zones cause
  | action kind z step => exact h.performSet _ _ _ _ _ _
  | _ => exact h.performRecall _ _ _

theorem releaseHeld (h : ActingSound s) : ActingSound (releaseHeld s) :=
  foldl_inv ActingSound _ (fun _ r hs => hs.performHeld r) _ _ (h.setCatchUp _)

/-! ## Accepted frames -/

theorem acceptSet (h : ActingSound s) (f : Frame) (z : Zone) (c : Colour) (l : Byte) (x : FadeCode) (w : Bool) :
    ActingSound (acceptSet f z c l x w s) := by
  unfold Machine.acceptSet
  dsimp only
  split
  · exact (h.merge _ _).wake _ _
  · exact h.merge _ _

theorem acceptRecall (h : ActingSound s) (f : Frame) (k : Look) (c : Word16) (w : Bool) : ActingSound (acceptRecall f k c w s) := by
  unfold Machine.acceptRecall
  dsimp only
  split
  · split
    · exact (h.mergeLook _ _ _).wakeAll _ _
    · exact h.mergeLook _ _ _
  · exact h.countAt _

end ActingSound

end Sys2Proof.Machine
end

section
/-! The soundness of every step: time, offers, the phases from LISTEN to RUNNING, and requests to publish: O5. -/

namespace Sys2Proof.Machine

open Sys2Proof

/-! ## Time -/

theorem recordSound_after (n : Nat) (cfg : OccupancyConfig) (r : OccupancyRecord) (h : recordSound cfg r = true) :
    recordSound cfg { r with timer := r.timer.after n, overtaken := r.overtaken && n == 0 } = true := by
  simp only [recordSound, Bool.and_eq_true, Bool.or_eq_true, Bool.not_eq_true', Bool.and_eq_false_iff, beq_iff_eq, beq_eq_false_iff_ne,
    decide_eq_true_eq] at h ⊢
  obtain ⟨⟨⟨hpercent, henable⟩, hovertaken⟩, hstate⟩ := h
  refine ⟨⟨⟨hpercent, henable⟩, ?_⟩, ?_⟩
  · by_cases hn : n = 0
    · rcases hovertaken with ho | ⟨hs, ht⟩
      · exact .inl (.inl ho)
      · exact .inr ⟨hs, by rw [ht, hn]; rfl⟩
    · exact .inl (.inr hn)
  · cases hs : r.state <;> simp only [hs, beq_iff_eq] at hstate ⊢
    · rw [hstate]; rfl
    · rw [Timer.isRunning_after]; exact hstate
    · rw [Timer.isRunning_after]; exact hstate
    · rw [hstate]; rfl

theorem inputReset_after (n : Nat) (r : InputRecord) (h : r = InputRecord.reset) :
    { r with debounce := r.debounce.after n, repeating := r.repeating.after n, refresh := r.refresh.after n } = InputRecord.reset := by
  subst h
  rfl

theorem inputSound_after (n : Nat) (cfg : InputConfig) (r : InputRecord) (h : inputSound cfg r = true) :
    inputSound cfg { r with debounce := r.debounce.after n, repeating := r.repeating.after n, refresh := r.refresh.after n } = true := by
  simp only [inputSound, Bool.and_eq_true, Bool.or_eq_true, beq_iff_eq, Timer.after_eq_stopped] at h ⊢
  obtain ⟨hactive, hkind⟩ := h
  refine ⟨hactive, ?_⟩
  cases hk : cfg.kind <;> simp only [hk, beq_iff_eq, Bool.and_eq_true, Bool.or_eq_true, Timer.after_eq_stopped] at hkind ⊢
  · exact inputReset_after n r hkind
  · exact hkind
  · exact hkind
  · exact hkind

theorem Working.passBy {s : State} (h : Working s) (n : Nat) : Working (passBy n s) where
  node := h.node
  array := h.array
  idle := fun hp => by
    rw [passBy_store, h.idle hp]
    rfl
  unit :=
    { heldList := h.unit.heldList
      asker := h.unit.asker
      window := by
        rw [passBy_catchUp, Timer.isRunning_after]
        exact h.unit.window
      backoff := by
        rw [passBy_catchUp, Timer.isRunning_after]
        exact h.unit.backoff
      answers := h.unit.answers
      room := h.unit.room
      occupies := h.unit.occupies }
  silent := h.silent
  acting :=
    { clock := h.acting.clock
      queue := h.acting.queue.congr rfl rfl
      occupancy := fun z => by
        rw [passBy_occupancyConfig, passBy_occupancyRecords, mapTable_get]
        exact ⟨recordSound_after n _ _ (h.acting.occupancy z).1, (h.acting.occupancy z).2⟩
      heads := h.acting.heads }
  lanes := h.lanes
  peers := h.peers
  inputs := fun i => by
    rw [passBy_inputsConfig, passBy_inputRecords, mapTable_get]
    exact ⟨inputSound_after n _ _ (h.inputs i).1, fun hp => inputReset_after n _ ((h.inputs i).2 hp)⟩

namespace Working
variable {s : State}

/-! ## Offers -/

/-- An offer in a phase in which the node sends. -/
theorem offerRecord (h : Working s) (p : Payload) (stamp : Word32) (hp : p.isPresence = false) (hs : s.node.phase.silent = false) :
    Working (offerRecord p stamp s).state :=
  h.acted ⟨by simp, by simp, by simp, by simp, by simp, by simp, by simp⟩ (h.acting.offer p stamp hp) fun ht => absurd ht (by simp [hs])

theorem createPresence (h : Working s) : Working (createPresence s) := by
  refine h.acted ⟨by simp, by simp, by simp, by simp, by simp, by simp, by simp⟩ h.acting.createPresence fun hs => ?_
  have hnone : s.node.phase.announced = none := by
    have hphase : ∀ p : Phase, p.silent = true → p.announced = none := by
      intro p
      cases p <;> decide
    exact hphase _ hs
  have hsame : Machine.createPresence s = s := by
    unfold Machine.createPresence
    rw [hnone]
  rw [hsame]
  exact h.silent hs

/-! ## The phases from CATCH_UP on -/

/-- The entry of RUNNING from CATCH_UP (R105). -/
theorem enterRunning (h : Working s) (hp : s.node.phase = .catchUp) (how : Completion) : Working (enterRunning how s) where
  node := by
    rw [enterRunning_node, (enterRunning_frame how s).1]
    exact ⟨h.node.ended, Phase.noConfusion, h.node.powered, h.node.released, fun _ => h.node.station (by rw [hp]; rfl), fun hl => by cases hl⟩
  array := by
    unfold StoreWf
    rw [(enterRunning_frame how s).2.2.2.2.2.1]
    exact h.array
  idle := fun _ => by
    rw [(enterRunning_frame how s).2.2.2.2.2.1]
    exact h.idle (by rw [hp]; decide)
  unit := by
    rw [enterRunning_node, enterRunning_catchUp]
    exact ⟨fun _ _ => rfl, rfl, ⟨fun hr => (by cases hr), fun hw => (by cases hw)⟩, h.unit.backoff, fun hr => absurd rfl hr, Nat.zero_le _,
      Nat.zero_le _⟩
  silent := fun hs => by
    rw [enterRunning_node] at hs
    cases hs
  acting := by
    unfold Machine.enterRunning
    refine ActingSound.releaseHeld (ActingSound.createPresence (ActingSound.raise ?_ _))
    exact h.acting.congr rfl rfl rfl rfl rfl (iff_of_false (fun hc => by cases hc) (by rw [hp]; decide))
  lanes := by
    unfold LanesSound
    rw [(enterRunning_frame how s).1, (enterRunning_frame how s).2.1]
    exact h.lanes
  peers := by
    unfold PeersSound
    rw [(enterRunning_frame how s).2.2.2.1, enterRunning_node]
    exact h.peers
  inputs := by
    unfold InputsSound
    rw [(enterRunning_frame how s).2.2.2.2.1, enterRunning_node]
    exact fun i => ⟨(h.inputs i).1, fun hc => by cases hc⟩

/-- An asker that asks or waits is in CATCH_UP (R100). -/
theorem phase_of_asker (h : Working s) (ha : s.catchUp.asker = .asking ∨ s.catchUp.asker = .window) : s.node.phase = .catchUp :=
  h.sound.phase.catchUp_of_asker ha

theorem offerAsk (h : Working s) (hs : s.node.phase.silent = false) : Working (offerAsk s).state := h.offerRecord _ _ rfl hs

/-- A report of a failed ask, at any time (R103). -/
theorem askFailed (h : Working s) : Working (askFailed s) := by
  unfold Machine.askFailed
  split
  · next hasking =>
    have hp := h.phase_of_asker (.inl hasking)
    split
    · exact h.enterRunning hp _
    · dsimp only
      have hretry : Working (s.setCatchUp { s.catchUp with retry := true }) :=
        h.setCatchUp _ ⟨h.unit.heldList, h.unit.asker, h.unit.window, h.unit.backoff, h.unit.answers, h.unit.room, h.unit.occupies⟩
      have hoffered := hretry.offerAsk (by show s.node.phase.silent = false; rw [hp]; rfl)
      split
      · exact hoffered
      · exact hoffered.enterRunning (by simpa using hp) _
  · exact h

theorem askFailed_iterate (h : Working s) (n : Nat) : Working (Machine.askFailed^[n] s) := by
  induction n generalizing s with
  | zero => exact h
  | succ n ih => exact ih h.askFailed

theorem reportLost (h : Working s) (lost : Bool) : Working (reportLost lost s) := by
  cases lost
  · exact h
  · exact h.askFailed

/-- The entry of CATCH_UP from LISTEN, whatever the presence expiries counted (R101, R159). -/
theorem enterCatchUp (h : Working s) (hp : s.node.phase = .listen) (n : Nat) :
    Working (enterCatchUp (s.setNode { s.node with listenExpiries := n })) := by
  have hanswers := h.unit.answers (by rw [hp]; decide)
  have hasking : Working ((s.setNode { s.node with phase := .catchUp, listenExpiries := n }).setCatchUp
      { s.catchUp with asker := .asking, retry := false, window := .stopped }) :=
    { node := ⟨h.node.ended, Phase.noConfusion, h.node.powered, h.node.released, fun _ => h.node.station (by rw [hp]; rfl), fun hl => by cases hl⟩
      array := h.array
      idle := fun _ => h.idle (by rw [hp]; decide)
      unit := ⟨fun _ hc => absurd rfl hc, rfl, ⟨fun hr => (by cases hr), fun hw => (by cases hw)⟩, h.unit.backoff, fun _ => hanswers,
        h.unit.room, h.unit.occupies⟩
      silent := fun hs => by cases hs
      acting := h.acting.congr rfl rfl rfl rfl rfl (iff_of_false (fun hc => by cases hc) (by rw [hp]; decide))
      lanes := h.lanes
      peers := h.peers
      inputs := fun i => ⟨(h.inputs i).1, fun hc => by cases hc⟩ }
  unfold Machine.enterCatchUp
  dsimp only
  split
  · exact hasking.offerAsk rfl
  · exact (hasking.offerAsk rfl).askFailed

/-! ## Requests to publish -/

theorem wakeAll (h : Working s) (cause : WakeCause) (zones : List Zone) : Working (wakeAll cause zones s) :=
  h.acted ⟨by simp, by simp, by simp, by simp, by simp, by simp, by simp⟩ (h.acting.wakeAll cause zones) fun hs => by
    simpa using h.silent hs

/-- A publication performed in RUNNING, a displaced SYNC_ASK reported (R86). -/
theorem answerOf (h : Working s) (hp : s.node.phase = .running) (r : HeldRequest) : Working (answerOf (performHeld r s)).state := by
  refine Working.reportLost (h.acted ⟨by simp, by simp, by simp, by simp, by simp, by simp, by simp⟩ (h.acting.performHeld r) fun hs => ?_) _
  rw [hp] at hs
  cases hs

/-- The Held List taken anew, within its bounds, in a phase that holds (R110, R111). -/
theorem setHeld (h : Working s) (hp : s.node.phase = .listen ∨ s.node.phase = .catchUp) (list : List HeldRequest)
    (hroom : list.length ≤ heldRoom) (hone : list.countP HeldRequest.isOccupy ≤ 1) : Working (s.setCatchUp { s.catchUp with held := list }) :=
  h.setCatchUp _ ⟨fun hl hc => absurd hp (not_or.mpr ⟨hl, hc⟩), h.unit.asker, h.unit.window, h.unit.backoff, h.unit.answers, hroom, hone⟩

theorem appendHeld (h : Working s) (hp : s.node.phase = .listen ∨ s.node.phase = .catchUp) (r : HeldRequest)
    (hone : r.isOccupy = true → s.catchUp.held.countP HeldRequest.isOccupy = 0) : Working (appendHeld r s).state := by
  unfold Machine.appendHeld
  split
  · next hroom =>
    refine h.setHeld hp _ (by rw [List.length_append]; exact hroom) ?_
    rw [List.countP_append, List.countP_singleton]
    split
    · next ho => rw [hone ho]
    · exact h.unit.occupies
  · exact h.countNode _

end Working

/-- A held OCCUPY that takes another in stays the one it was among as many requests (R112). -/
theorem mergeHeldOccupy_some (zones : ZoneSet) (cause : WakeCause) (l merged : List HeldRequest) (h : mergeHeldOccupy zones cause l = some merged) :
    merged.length = l.length ∧ merged.countP HeldRequest.isOccupy = l.countP HeldRequest.isOccupy := by
  induction l generalizing merged with
  | nil => cases h
  | cons a l ih =>
    cases a
    case occupy held old =>
      obtain rfl := Option.some.inj h
      exact ⟨rfl, rfl⟩
    all_goals
      obtain ⟨rest, hrest, rfl⟩ := Option.map_eq_some_iff.mp h
      obtain ⟨hlen, hcount⟩ := ih rest hrest
      exact ⟨by rw [List.length_cons, List.length_cons, hlen], by rw [List.countP_cons, List.countP_cons, hcount]⟩

theorem mergeHeldOccupy_refuses (zones : ZoneSet) (cause : WakeCause) (l : List HeldRequest) (h : mergeHeldOccupy zones cause l = none) :
    l.countP HeldRequest.isOccupy = 0 := by
  induction l with
  | nil => rfl
  | cons a l ih =>
    cases a
    case occupy held old => cases h
    all_goals
      rw [List.countP_cons, ih (Option.map_eq_none_iff.mp h)]
      rfl

namespace Working
variable {s : State}

theorem holdRequest (h : Working s) (hp : s.node.phase = .listen ∨ s.node.phase = .catchUp) (r : HeldRequest) :
    Working (holdRequest r s).state := by
  cases r with
  | occupy zones cause =>
    unfold Machine.holdRequest
    dsimp only
    split
    · next list hmerged =>
      obtain ⟨hlen, hcount⟩ := mergeHeldOccupy_some _ _ _ _ hmerged
      exact h.setHeld hp list (hlen ▸ h.unit.room) (hcount ▸ h.unit.occupies)
    · next hnone => exact h.appendHeld hp _ fun _ => mergeHeldOccupy_refuses _ _ _ hnone
  | _ => exact h.appendHeld hp _ fun ho => by cases ho

theorem requestByPhase (h : Working s) (r : HeldRequest) : Working (requestByPhase r s).state := by
  unfold Machine.requestByPhase
  split
  · exact h
  · exact h
  · next hp => exact h.holdRequest (.inl hp) r
  · next hp => exact h.holdRequest (.inr hp) r
  · next hp => exact h.answerOf hp r
  · exact h

theorem requestOccupy (h : Working s) (zones : ZoneSet) (cause : WakeCause) : Working (requestOccupy zones cause s).state := by
  have hwoken := h.wakeAll cause (members zones)
  have hphase : (wakeSet cause zones s).node.phase = s.node.phase := by simp [wakeSet]
  unfold Machine.requestOccupy
  split
  · exact h
  · exact h
  · next hp => exact hwoken.holdRequest (.inl (hphase.trans hp)) _
  · next hp => exact hwoken.holdRequest (.inr (hphase.trans hp)) _
  · next hp => exact h.answerOf hp (.occupy zones cause)
  · exact hwoken

end Working

end Sys2Proof.Machine
end

section
/-! The soundness of every step: copies that start and end, lanes that go DOWN and come UP: O5. -/

namespace Sys2Proof.Machine

open Sys2Proof

/-! ## The record that is changed -/

theorem changeFirst_mem (p : TxRecord → Bool) (f : TxRecord → TxRecord) (l : List TxRecord) (q : TxRecord) (h : q ∈ changeFirst p f l) :
    q ∈ l ∨ ∃ r ∈ l, p r = true ∧ q = f r := by
  induction l with
  | nil => cases h
  | cons a l ih =>
    unfold changeFirst at h
    split at h
    · next ha =>
      rcases List.mem_cons.mp h with rfl | h
      · exact .inr ⟨a, List.mem_cons_self, ha, rfl⟩
      · exact .inl (List.mem_cons_of_mem a h)
    · rcases List.mem_cons.mp h with rfl | h
      · exact .inl List.mem_cons_self
      · rcases ih h with h | ⟨r, hr, hp⟩
        · exact .inl (List.mem_cons_of_mem a h)
        · exact .inr ⟨r, List.mem_cons_of_mem a hr, hp⟩

/-- A change of one record that brings it into no new count lets no count rise. -/
theorem changeFirst_countP_le (p c : TxRecord → Bool) (f : TxRecord → TxRecord) (hc : ∀ r, p r = true → c (f r) = true → c r = true)
    (l : List TxRecord) : (changeFirst p f l).countP c ≤ l.countP c := by
  induction l with
  | nil => exact Nat.le_refl _
  | cons a l ih =>
    unfold changeFirst
    split
    · next ha =>
      rw [List.countP_cons, List.countP_cons]
      have := hc a ha
      split <;> split <;> simp_all
    · rw [List.countP_cons, List.countP_cons]
      omega

/-- A change of one record raises a count by one at most. -/
theorem changeFirst_countP_succ (p c : TxRecord → Bool) (f : TxRecord → TxRecord) (l : List TxRecord) :
    (changeFirst p f l).countP c ≤ l.countP c + 1 := by
  induction l with
  | nil => exact Nat.zero_le _
  | cons a l ih =>
    unfold changeFirst
    split
    · rw [List.countP_cons, List.countP_cons]
      split <;> split <;> omega
    · rw [List.countP_cons, List.countP_cons]
      omega

/-- A counted record changed into one that is not counted lowers the count. -/
theorem changeFirst_countP_pred (c : TxRecord → Bool) (f : TxRecord → TxRecord) (hf : ∀ r, c (f r) = false) (l : List TxRecord) :
    (changeFirst c f l).countP c = l.countP c - 1 := by
  induction l with
  | nil => rfl
  | cons a l ih =>
    unfold changeFirst
    split
    · next ha => simp [hf, ha]
    · next ha => simp [ha, ih]

/-! ## The queue within its bounds -/

/-- `QueueSound` but for records at rest, which are still to leave (R93). -/
structure QueueBounds (s : State) : Prop where
  room : s.tx.records.length ≤ queueRoom
  flying : ∀ L, flyingOn L s.tx.records ≤ 1
  copies : ∀ L, ∀ r ∈ s.tx.records, copySound (s.lanes.get L).state r.payload.isPresence (r.copies.get L) (r.attempts.get L) = true
  presence : s.tx.records.countP (fun r => r.payload.isPresence) ≤ 1

theorem QueueSound.bounds {s : State} (h : QueueSound s) : QueueBounds s :=
  ⟨h.room, h.flying, fun L => List.all_eq_true.mp (h.copies L), h.presence⟩

namespace QueueBounds
variable {s t : State}

theorem congr (h : QueueBounds s) (ht : t.tx.records = s.tx.records) (hl : ∀ L, (t.lanes.get L).state = (s.lanes.get L).state) :
    QueueBounds t := by
  refine ⟨?_, ?_, fun L => ?_, ?_⟩
  · rw [ht]; exact h.room
  · rw [ht]; exact h.flying
  · rw [ht, hl]; exact h.copies L
  · rw [ht]; exact h.presence

/-- The records that stay are sound once those at rest have left. -/
theorem settled (h : QueueBounds s) : QueueSound (settled s) := by
  have hsub : (s.tx.records.filter TxRecord.live).Sublist s.tx.records := List.filter_sublist
  exact ⟨hsub.length_le.trans h.room, List.all_eq_true.mpr fun r hr => (List.mem_filter.mp hr).2, fun L => hsub.countP_le.trans (h.flying L),
    fun L => List.all_eq_true.mpr fun r hr => h.copies L r (hsub.subset hr), hsub.countP_le.trans h.presence⟩

/-- One record changed, its payload as it was. -/
theorem changeFirst (h : QueueBounds s) (p : TxRecord → Bool) (f : TxRecord → TxRecord) (hp : ∀ r, (f r).payload = r.payload)
    (hfly : ∀ K r, p r = true → (f r).copies.get K = .inFlight → r.copies.get K = .inFlight)
    (hcopy : ∀ K, ∀ r ∈ s.tx.records, p r = true →
      copySound (s.lanes.get K).state r.payload.isPresence ((f r).copies.get K) ((f r).attempts.get K) = true) :
    QueueBounds (s.setTx { s.tx with records := changeFirst p f s.tx.records }) := by
  refine ⟨?_, fun K => ?_, fun K q hq => ?_, ?_⟩
  · rw [State.setTx_tx, changeFirst_length]
    exact h.room
  · refine (changeFirst_countP_le p _ f (fun r hr hc => ?_) _).trans (h.flying K)
    simpa using hfly K r hr (by simpa using hc)
  · rcases changeFirst_mem p f _ q hq with hmem | ⟨r, hr, hpr, rfl⟩
    · exact h.copies K q hmem
    · rw [hp]
      exact hcopy K r hr hpr
  · exact (changeFirst_countP_le p _ f (fun r _ hc => by rw [hp] at hc; exact hc) _).trans h.presence

/-- Every record changed, its payload as it was, and lanes moved with it. -/
theorem map (h : QueueBounds s) (f : TxRecord → TxRecord) (ht : t.tx.records = s.tx.records.map f) (hp : ∀ r, (f r).payload = r.payload)
    (hfly : ∀ K r, (f r).copies.get K = .inFlight → r.copies.get K = .inFlight)
    (hcopy : ∀ K, ∀ r ∈ s.tx.records,
      copySound (t.lanes.get K).state r.payload.isPresence ((f r).copies.get K) ((f r).attempts.get K) = true) : QueueBounds t := by
  refine ⟨?_, fun K => ?_, fun K q hq => ?_, ?_⟩
  · rw [ht, List.length_map]
    exact h.room
  · rw [ht, flyingOn, List.countP_map]
    refine (List.countP_mono_left fun r _ hc => ?_).trans (h.flying K)
    simpa using hfly K r (by simpa using hc)
  · rw [ht] at hq
    obtain ⟨r, hr, rfl⟩ := List.mem_map.mp hq
    rw [hp]
    exact hcopy K r hr
  · rw [ht, List.countP_map]
    refine (List.countP_mono_left fun r _ hc => ?_).trans h.presence
    simpa [hp] using hc

end QueueBounds

/-! ## Copies and attempts -/

theorem copySound_dead (lane : LaneState) (presence : Bool) (copy : CopyState) (attempts : Nat) (hdead : copy.live = false) (ha : attempts ≤ 16) :
    copySound lane presence copy attempts = true := by
  simp [copySound, hdead, ha]

/-- What a sound live copy says. -/
theorem copySound_live {lane : LaneState} {presence : Bool} {copy : CopyState} {attempts : Nat} (hlive : copy.live = true) :
    copySound lane presence copy attempts = true ↔ attempts ≤ 15 ∧ lane ≠ .disabled ∧ (lane = .down → presence = true) := by
  simp only [copySound, hlive, Bool.and_eq_true, decide_eq_true_eq, Bool.not_true, Bool.false_or, bne_iff_ne, Bool.or_eq_true, ne_eq]
  by_cases hd : lane = .down
  · simp only [hd, not_true, false_or, true_implies]
    constructor
    · rintro ⟨⟨⟨_, h⟩, h'⟩, h''⟩
      exact ⟨h, h', h''⟩
    · rintro ⟨h, h', h''⟩
      exact ⟨⟨⟨by omega, h⟩, h'⟩, h''⟩
  · simp only [hd, not_false_iff, true_or, and_true, false_implies]
    constructor
    · rintro ⟨⟨_, h⟩, h'⟩
      exact ⟨h, h'⟩
    · rintro ⟨h, h'⟩
      exact ⟨⟨by omega, h⟩, h'⟩

/-- A lane that is UP bears any copy. -/
theorem copySound_up {lane : LaneState} {presence : Bool} {copy : CopyState} {attempts : Nat} (h : copySound lane presence copy attempts = true) :
    copySound .up presence copy attempts = true := by
  cases hlive : copy.live with
  | true => exact (copySound_live hlive).mpr ⟨((copySound_live hlive).mp h).1, by decide, fun hd => by cases hd⟩
  | false =>
    refine copySound_dead _ _ _ _ hlive ?_
    simp only [copySound, Bool.and_eq_true, decide_eq_true_eq] at h
    exact h.1.1.1

theorem copySound_attempts {lane : LaneState} {presence : Bool} {copy : CopyState} {attempts : Nat}
    (h : copySound lane presence copy attempts = true) : attempts ≤ 16 := by
  simp only [copySound, Bool.and_eq_true, decide_eq_true_eq] at h
  exact h.1.1.1

/-- One of the two lanes is the other's other. -/
theorem lane_cases (L K : Lane) : K = L ∨ K = L.other := by cases L <;> cases K <;> simp [Lane.other]

/-! ## A node with records at rest -/

/-- The node with its Transmit Queue emptied. -/
def emptied (s : State) : State := s.setTx { s.tx with records := [] }

/-- Soundness of a working node but for records at rest in its queue, which are still to leave. -/
structure Unsettled (s : State) : Prop where
  rest : Working (emptied s)
  bounds : QueueBounds s
  silent : s.node.phase.silent = true → s.tx.records = []

theorem Working.emptied {s : State} (h : Working s) : Working (emptied s) := h.setTx _ (queueSound_empty _ rfl) fun _ => rfl

theorem Working.unsettled {s : State} (h : Working s) : Unsettled s := ⟨h.emptied, h.acting.queue.bounds, h.silent⟩

namespace Unsettled
variable {s t : State}

/-- The queue settled: records at rest leave, and the asker hears of a failed ask (R93, R94). -/
theorem settle (h : Unsettled s) : Working (settle s) := by
  rw [settle_eq_settled]
  exact (h.rest.setTx (settled s).tx h.bounds.settled fun hs => by
    show s.tx.records.filter TxRecord.live = []
    rw [h.silent hs]
    rfl).askFailed_iterate _

/-- Nothing moved but counts and events. -/
theorem congr (h : Unsettled s) (hf : SameFrame s t) (hz : t.zoneStore = s.zoneStore) (ht : t.tx = s.tx) (ho : t.occupancy = s.occupancy)
    (hh : t.heads = s.heads) : Unsettled t :=
  ⟨h.rest.congr ⟨hf.pins, hf.lanes, hf.presence, hf.catchUp, hf.inputs, hf.node, hf.store⟩ hz (by simp [Machine.emptied, ht]) ho hh,
    h.bounds.congr (by rw [ht]) (fun L => by rw [hf.lanes]), by rw [hf.node, ht]; exact h.silent⟩

theorem countLane (h : Unsettled s) (L : Lane) (c : LaneCounter) : Unsettled (countLane L c s) :=
  h.congr ⟨by simp, by simp, by simp, by simp, by simp, by simp, by simp⟩ (by simp) (by simp) (by simp) (by simp)

/-- The records changed within their bounds. -/
theorem setRecords (h : Unsettled s) (l : List TxRecord) (hb : QueueBounds (s.setTx { s.tx with records := l }))
    (hs : s.tx.records = [] → l = []) : Unsettled (s.setTx { s.tx with records := l }) :=
  ⟨h.rest, hb, fun hq => hs (h.silent hq)⟩

/-- The copy in flight changed. -/
theorem changeInFlight (h : Unsettled s) (L : Lane) (f : TxRecord → TxRecord) (hp : ∀ r, (f r).payload = r.payload)
    (hother : ∀ r, (f r).copies.get L.other = r.copies.get L.other ∧ (f r).attempts.get L.other = r.attempts.get L.other)
    (hcopy : ∀ r ∈ s.tx.records, r.copies.get L = .inFlight →
      copySound (s.lanes.get L).state r.payload.isPresence ((f r).copies.get L) ((f r).attempts.get L) = true) :
    Unsettled (changeInFlight L f s) := by
  refine h.setRecords _ (h.bounds.changeFirst _ f hp (fun K r hr hfly => ?_) fun K r hmem hr => ?_) fun hnil => by rw [hnil]; rfl
  · rcases lane_cases L K with rfl | rfl
    · simpa using hr
    · rwa [(hother r).1] at hfly
  · rcases lane_cases L K with rfl | rfl
    · exact hcopy r hmem (by simpa using hr)
    · rw [(hother r).1, (hother r).2]
      exact h.bounds.copies _ r hmem

/-- A lane written that keeps its state. -/
theorem putLane (h : Unsettled s) (L : Lane) (abandons : Nat)
    (hl : laneSound { state := (s.lanes.get L).state, abandons := abandons } (s.pins.faultLines.get L) = true) :
    Unsettled (putLane L { state := (s.lanes.get L).state, abandons := abandons } s) := by
  refine ⟨h.rest.setLanes _ (fun K => ?_) (fun K => rfl), h.bounds.congr rfl fun K => ?_, h.silent⟩
  · rcases lane_cases L K with rfl | rfl
    · show laneSound ((s.lanes.put _ _).get _) _ = true
      rw [PerLane.put_get]
      exact hl
    · show laneSound ((s.lanes.put _ _).get _) _ = true
      rw [PerLane.put_get_other]
      exact h.rest.lanes _
  · show ((s.lanes.put _ _).get _).state = _
    rcases lane_cases L K with rfl | rfl
    · rw [PerLane.put_get]
    · rw [PerLane.put_get_other]

end Unsettled

end Sys2Proof.Machine
end

section
/-! The soundness of every step: the commands of the lanes: O5. -/

namespace Sys2Proof.Machine

open Sys2Proof

theorem fails_sound {L : Lane} {s : State} (h : Unsettled s) (r : TxRecord) (hmem : r ∈ s.tx.records) (hr : r.copies.get L = .inFlight) :
    r.attempts.get L ≤ 15 ∧ (s.lanes.get L).state ≠ .disabled ∧ ((s.lanes.get L).state = .down → r.payload.isPresence = true) :=
  (copySound_live (by rw [hr]; rfl)).mp (h.bounds.copies L r hmem)

/-- A lane gone DOWN, with no copy in flight on it: its PENDING copies are ABANDONED (R46, R91). -/
theorem QueueBounds.takeLaneDown {L : Lane} {s : State} (h : QueueBounds s) (hidle : ∀ q ∈ s.tx.records, q.copies.get L ≠ .inFlight) :
    QueueBounds (takeLaneDown L s) := by
  have htx : (Machine.takeLaneDown L s).tx.records = s.tx.records.map (dropPending L) := by rw [takeLaneDown_tx]
  refine h.map (dropPending L) htx (fun r => ?_) (fun K r hfly => ?_) fun K r hmem => ?_
  · unfold dropPending
    split <;> rfl
  · unfold dropPending at hfly
    split at hfly
    · rcases lane_cases L K with rfl | rfl
      · rw [TxRecord.setCopy_get] at hfly
        cases hfly
      · rwa [TxRecord.setCopy_get_other] at hfly
    · exact hfly
  · have hattempts : (dropPending L r).attempts = r.attempts := by
      unfold dropPending
      split <;> rfl
    have hgone := dropPending_idle (hidle r hmem)
    rw [hattempts, takeLaneDown_lanes]
    rcases lane_cases L K with rfl | rfl
    · refine copySound_dead _ _ _ _ ?_ (copySound_attempts (h.copies K r hmem))
      rw [hgone.copy]
      split
      · rfl
      · next hdead => simpa using hdead
    · rw [PerLane.put_get_other, hgone.other]
      exact h.copies _ r hmem

/-- A lane DOWN with count 0 is sound whatever its fault line (R44, R85). -/
theorem lanesSound_down {L : Lane} {s t : State} (h : LanesSound s) (hl : t.lanes = s.lanes.put L { state := .down, abandons := 0 })
    (hp : t.pins.faultLines.get L.other = s.pins.faultLines.get L.other) : LanesSound t := by
  intro K
  rw [hl]
  rcases lane_cases L K with rfl | rfl
  · rw [PerLane.put_get]
    rfl
  · rw [PerLane.put_get_other, hp]
    exact h _

namespace Unsettled
variable {s : State}

/-- An UP lane goes DOWN with no copy in flight on it (R46). -/
theorem takeLaneDown (h : Unsettled s) (L : Lane) (hidle : ∀ q ∈ s.tx.records, q.copies.get L ≠ .inFlight) :
    Unsettled (takeLaneDown L s) := by
  have hdown : Working ((emptied s).setLanes (s.lanes.put L { state := .down, abandons := 0 })) :=
    h.rest.setLanes _ (lanesSound_down h.rest.lanes rfl rfl) fun _ => rfl
  refine ⟨?_, h.bounds.takeLaneDown hidle, fun hs => ?_⟩
  · refine hdown.congr ⟨?_, ?_, ?_, ?_, ?_, ?_, ?_⟩ ?_ ?_ ?_ ?_
    all_goals simp [emptied, takeLaneDown_lanes, takeLaneDown_tx]
  · have hnode : (Machine.takeLaneDown L s).node = s.node := by simp
    rw [hnode] at hs
    rw [takeLaneDown_tx, h.silent hs]
    rfl

/-- An abandon counted on an UP lane, which at the second in a row goes DOWN (R44). -/
theorem countAbandon (h : Unsettled s) (L : Lane) (hidle : ∀ q ∈ s.tx.records, q.copies.get L ≠ .inFlight) :
    Unsettled (countAbandon L s) := by
  have hlane := h.rest.lanes L
  unfold Machine.countAbandon
  dsimp only
  split
  · next hup =>
    split
    · exact h.takeLaneDown L hidle
    · next hfirst =>
      refine h.putLane L _ ?_
      have hclear : (!s.pins.faultLines.get L && decide ((s.lanes.get L).abandons ≤ 1)) = true := (if_pos hup).symm.trans hlane
      rw [Bool.and_eq_true] at hclear
      simp only [laneSound, hup, if_true, hclear.1, Bool.true_and, decide_eq_true_eq]
      omega
  · exact h

end Unsettled

/-- Once the lane's copy in flight is changed into one that is not, none is (R87). -/
theorem changeInFlight_idle {L : Lane} {s : State} (f : TxRecord → TxRecord) (hf : ∀ r, (f r).copies.get L ≠ .inFlight)
    (h : flyingOn L s.tx.records ≤ 1) : ∀ q ∈ (changeInFlight L f s).tx.records, q.copies.get L ≠ .inFlight := by
  have hcount : flyingOn L (changeInFlight L f s).tx.records = 0 := by
    have hpred := changeFirst_countP_pred (fun r => r.copies.get L == .inFlight) f (fun r => by simpa using hf r) s.tx.records
    show (changeFirst _ f s.tx.records).countP _ = 0
    rw [hpred]
    unfold flyingOn at h
    omega
  intro q hq
  simpa using List.countP_eq_zero.mp hcount q hq

theorem changeInFlight_live {L : Lane} {s : State} (f : TxRecord → TxRecord) (hf : ∀ r, (f r).live = true)
    (h : ∀ r ∈ s.tx.records, r.live = true) : ∀ r ∈ (changeInFlight L f s).tx.records, r.live = true := by
  intro q hq
  rcases changeFirst_mem _ f _ q hq with hmem | ⟨r, _, _, rfl⟩
  · exact h q hmem
  · exact hf r

/-- With no record at rest there is nothing to settle. -/
theorem Unsettled.working {s : State} (h : Unsettled s) (hl : ∀ r ∈ s.tx.records, r.live = true) : Working s :=
  h.rest.setTx s.tx ⟨h.bounds.room, List.all_eq_true.mpr hl, h.bounds.flying, fun L => List.all_eq_true.mpr (h.bounds.copies L),
    h.bounds.presence⟩ h.silent

/-- A PENDING copy of a lane with none in flight becomes the one that is (R87, R88). -/
theorem QueueSound.start {L : Lane} {s : State} (h : QueueSound s) (p : TxRecord → Bool) (hp : ∀ r, p r = true → r.copies.get L = .pending)
    (hidle : ∀ q ∈ s.tx.records, q.copies.get L ≠ .inFlight) :
    QueueSound (s.setTx { s.tx with records := changeFirst p (fun r => r.setCopy L .inFlight) s.tx.records }) := by
  have hcopies (K : Lane) (q : TxRecord) (hq : q ∈ changeFirst p (fun r => r.setCopy L .inFlight) s.tx.records) :
      copySound (s.lanes.get K).state q.payload.isPresence (q.copies.get K) (q.attempts.get K) = true := by
    rcases changeFirst_mem _ _ _ q hq with hmem | ⟨r, hmem, hr, rfl⟩
    · exact List.all_eq_true.mp (h.copies K) q hmem
    · have hsound := List.all_eq_true.mp (h.copies K) r hmem
      rcases lane_cases L K with rfl | rfl
      · rw [hp r hr] at hsound
        rw [TxRecord.setCopy_get]
        exact hsound
      · rw [TxRecord.setCopy_get_other]
        exact hsound
  refine ⟨?_, List.all_eq_true.mpr fun q hq => ?_, fun K => ?_, fun K => List.all_eq_true.mpr (hcopies K), ?_⟩
  · rw [State.setTx_tx, changeFirst_length]
    exact h.room
  · rcases changeFirst_mem _ _ _ q hq with hmem | ⟨r, _, _, rfl⟩
    · exact List.all_eq_true.mp h.live q hmem
    · rw [live_iff _ L, TxRecord.setCopy_get]
      rfl
  · rcases lane_cases L K with rfl | rfl
    · have hnone : flyingOn K s.tx.records = 0 := List.countP_eq_zero.mpr fun q hq => by simpa using hidle q hq
      exact (changeFirst_countP_succ _ _ _ _).trans (by rw [show s.tx.records.countP _ = 0 from hnone])
    · refine (changeFirst_countP_le _ _ _ (fun r _ hc => ?_) _).trans (h.flying L.other)
      rwa [TxRecord.setCopy_get_other] at hc
  · exact (changeFirst_countP_le _ (fun r => r.payload.isPresence) (fun r => r.setCopy L .inFlight) (fun r _ hc => hc) _).trans h.presence

theorem selectable_pending {L : Lane} {urgent : Bool} {r : TxRecord} (h : selectable L urgent r = true) : r.copies.get L = .pending :=
  ((selectable_iff L urgent r).mp h).2

namespace Working
variable {s : State}

theorem copyStart (h : Working s) (L : Lane) (t : State) (ht : execCopyStart L s = .next t) : Working t := by
  unfold execCopyStart at ht
  split at ht
  · next hstart =>
    obtain rfl := Host.Outcome.next.inj ht
    have hidle := (inFlightOn_none L s.tx.records).mp (Option.isNone_iff_eq_none.mp hstart.2)
    have hempty (hs : s.node.phase.silent = true) : startSelected L s.tx.records = [] := by
      rw [h.silent hs]
      rfl
    refine h.setTx _ ?_ hempty
    unfold startSelected
    split
    · exact h.acting.queue.start _ (fun r => selectable_pending) hidle
    · exact h.acting.queue.start _ (fun r => selectable_pending) hidle
  · obtain rfl := Host.Outcome.next.inj ht
    exact h

/-- An attempt that fails, if a copy is in flight (R43). -/
theorem failAttempt (h : Working s) (L : Lane) : Working (failAttempt L s) := by
  have htried := h.unsettled.countLane L .txContention
  unfold Machine.failAttempt
  split
  · exact h
  · next r hin =>
    obtain ⟨older, younger, hrecords, _, hr⟩ := split_first _ _ r hin
    have hr : r.copies.get L = .inFlight := by simpa using hr
    have hsound := fails_sound h.unsettled r (by simp [hrecords]) hr
    have hother (c : CopyState) (n : Nat) (q : TxRecord) :
        (q.setCopy L c).copies.get L.other = q.copies.get L.other ∧ (q.attempts.put L n).get L.other = q.attempts.get L.other :=
      ⟨by simp, by simp⟩
    dsimp only
    split
    · next hfew =>
      have hpending : Unsettled (changeInFlight L
          (fun q => { q.setCopy L .pending with attempts := q.attempts.put L (r.attempts.get L + 1) }) (Machine.countLane L .txContention s)) := by
        refine htried.changeInFlight L _ (fun _ => rfl) (hother _ _) fun q hmem hq => ?_
        have hq := fails_sound htried q hmem hq
        simp only [TxRecord.setCopy, PerLane.put_get]
        exact (copySound_live rfl).mpr ⟨Nat.le_of_lt_succ hfew, hq.2⟩
      refine hpending.working (changeInFlight_live _ (fun q => ?_) (by simpa using List.all_eq_true.mp h.acting.queue.live))
      rw [live_iff _ L]
      simp [TxRecord.setCopy, CopyState.live]
    · have habandoned : Unsettled (changeInFlight L
          (fun q => { q.setCopy L .abandoned with attempts := q.attempts.put L (r.attempts.get L + 1) })
          (Machine.countLane L .txAbandoned (Machine.countLane L .txContention s))) := by
        refine (htried.countLane L .txAbandoned).changeInFlight L _ (fun _ => rfl) (hother _ _) fun q hmem hq => ?_
        simp only [TxRecord.setCopy, PerLane.put_get]
        exact copySound_dead _ _ _ _ rfl (by omega)
      refine (habandoned.countAbandon L (changeInFlight_idle _ (fun q => by simp [TxRecord.setCopy]) ?_)).settle
      simpa using h.acting.queue.flying L

/-- A frame that arrives takes its lane UP: its fault line is clear (R34, R47). -/
theorem bringLaneUp (h : Working s) {L : Lane} (hr : laneReceives L s = true) : Working (bringLaneUp L s) := by
  have hclear : s.pins.faultLines.get L = false := by
    simp only [laneReceives, Bool.and_eq_true, Bool.not_eq_true'] at hr
    exact hr.2
  have hlane := h.lanes L
  unfold Machine.bringLaneUp
  dsimp only
  split
  · next hdown =>
    have hzero : (s.lanes.get L).abandons = 0 := by
      simpa [laneSound, hdown] using hlane
    refine Working.raise (h.setLanes _ (fun K => ?_) fun K => ?_) _
    · show laneSound ((s.lanes.put L _).get K) (s.pins.faultLines.get K) = true
      rcases lane_cases L K with rfl | rfl
      · rw [PerLane.put_get]
        simp [laneSound, hclear, hzero]
      · rw [PerLane.put_get_other]
        exact h.lanes _
    · rcases lane_cases L K with rfl | rfl
      · rw [PerLane.put_get]
        exact List.all_eq_true.mpr fun r hmem => copySound_up (List.all_eq_true.mp (h.acting.queue.copies K) r hmem)
      · rw [PerLane.put_get_other]
        exact h.acting.queue.copies _
  · exact h

end Working

/-- The report of a first SENT copy (R102). -/
theorem Unsettled.askSent {s : State} (h : Unsettled s) : Unsettled (askSent s) := by
  unfold Machine.askSent
  split
  · next hasking =>
    have hp : s.node.phase = .catchUp := h.rest.phase_of_asker (.inl hasking)
    have hu := h.rest.unit
    have hunit : UnitSound s.node.phase { s.catchUp with asker := .window, window := .running windowTime } :=
      ⟨hu.heldList, by rw [hp]; rfl, iff_of_true rfl rfl, hu.backoff, hu.answers, hu.room, hu.occupies⟩
    exact ⟨h.rest.setCatchUp _ hunit, h.bounds.congr rfl fun _ => rfl, h.silent⟩
  · exact h

namespace Working
variable {s : State}

/-- A copy taken back (R38, R89). -/
theorem completeCopy (h : Working s) {L : Lane} (hr : laneReceives L s = true) : Working (completeCopy L s) := by
  have hup := h.bringLaneUp hr
  unfold Machine.completeCopy
  split
  · exact h
  · next r hin =>
    have hsent : Unsettled (Machine.countLane L .txSent (changeInFlight L (fun r => r.setCopy L .sent) (Machine.bringLaneUp L s))) := by
      refine (hup.unsettled.changeInFlight L (fun r => r.setCopy L .sent) (fun _ => rfl) (fun q => ⟨by simp, rfl⟩) fun q hmem _ => ?_).countLane _ _
      rw [TxRecord.setCopy_get]
      exact copySound_dead _ _ _ _ rfl (copySound_attempts (hup.unsettled.bounds.copies L q hmem))
    dsimp only
    generalize Machine.countLane L .txSent (changeInFlight L (fun r => r.setCopy L .sent) (Machine.bringLaneUp L s)) = sent at hsent
    have hlane := hsent.rest.lanes L
    have hcleared : Unsettled (putLane L { sent.lanes.get L with abandons := 0 } sent) := by
      refine hsent.putLane L 0 ?_
      have hlane : laneSound (sent.lanes.get L) (sent.pins.faultLines.get L) = true := hlane
      unfold laneSound at hlane ⊢
      split at hlane
      · next hup =>
        rw [Bool.and_eq_true] at hlane
        simp [hup, hlane.1]
      · next hup => simp [hup]
    split
    · exact hcleared.askSent.settle
    · exact hcleared.settle

/-! ## Fault lines -/

theorem laneFaultClear (h : Working s) (L : Lane) : Working (setFaultLine L false s) := by
  refine h.setPins _ ⟨rfl, rfl⟩ fun K => ?_
  have hlane := h.lanes K
  show laneSound (s.lanes.get K) ((s.pins.faultLines.put L false).get K) = true
  rcases lane_cases L K with rfl | rfl
  · rw [PerLane.put_get]
    unfold laneSound at hlane ⊢
    split at hlane
    · next hup =>
      rw [Bool.and_eq_true] at hlane
      simp [hup, hlane.2]
    · next hup => simpa [hup] using hlane
  · rw [PerLane.put_get_other]
    exact hlane

end Working

/-- The copy in flight ABANDONED, none is (R87, R91). -/
theorem dropFlying_idle (L : Lane) (r : TxRecord) : (dropFlying L r).copies.get L ≠ .inFlight := by
  unfold dropFlying
  split
  · simp
  · next h => exact h

theorem dropFlying_payload (L : Lane) (r : TxRecord) : (dropFlying L r).payload = r.payload ∧ (dropFlying L r).attempts = r.attempts := by
  unfold dropFlying
  split <;> exact ⟨rfl, rfl⟩

theorem dropFlying_other (L : Lane) (r : TxRecord) : (dropFlying L r).copies.get L.other = r.copies.get L.other := by
  unfold dropFlying
  split
  · rw [TxRecord.setCopy_get_other]
  · rfl

theorem QueueBounds.abandonInFlight {L : Lane} {s : State} (h : QueueBounds s) : QueueBounds (abandonInFlight L s) := by
  have hlanes : (Machine.abandonInFlight L s).lanes = s.lanes := by simp
  refine h.map (dropFlying L) (by rw [abandonInFlight_tx (h.flying L)]) (fun r => (dropFlying_payload L r).1) (fun K r hfly => ?_)
    fun K r hmem => ?_
  · rcases lane_cases L K with rfl | rfl
    · exact absurd hfly (dropFlying_idle _ r)
    · rwa [dropFlying_other] at hfly
  · rw [hlanes, (dropFlying_payload L r).2]
    rcases lane_cases L K with rfl | rfl
    · unfold dropFlying
      split
      · rw [TxRecord.setCopy_get]
        exact copySound_dead _ _ _ _ rfl (copySound_attempts (h.copies K r hmem))
      · exact h.copies K r hmem
    · rw [dropFlying_other]
      exact h.copies _ r hmem

/-- A rising fault line: the copy in flight is ABANDONED, and an UP lane goes DOWN (R46). -/
theorem Working.laneFaultAssert {s : State} (h : Working s) (L : Lane) (t : State) (ht : execLaneFaultAssert L s = .next t) : Working t := by
  have hrisen : QueueBounds (setFaultLine L true s) := h.acting.queue.bounds.congr rfl fun _ => rfl
  have hbounds : QueueBounds (abandonInFlight L (setFaultLine L true s)) := hrisen.abandonInFlight
  have htx := abandonInFlight_tx (hrisen.flying L)
  have hnext : (abandonInFlight L (setFaultLine L true s)).tx.nextSequence = s.tx.nextSequence := by rw [htx]; rfl
  have hlanes : (abandonInFlight L (setFaultLine L true s)).lanes = s.lanes := by simp [setFaultLine]
  have hnode : (abandonInFlight L (setFaultLine L true s)).node = s.node := by simp [setFaultLine]
  have hidle : ∀ q ∈ (abandonInFlight L (setFaultLine L true s)).tx.records, q.copies.get L ≠ .inFlight := by
    intro q hq
    rw [htx] at hq
    obtain ⟨r, _, rfl⟩ := List.mem_map.mp hq
    exact dropFlying_idle L r
  have hsilent (hs : s.node.phase.silent = true) : (abandonInFlight L (setFaultLine L true s)).tx.records = [] := by
    rw [htx]
    show s.tx.records.map _ = []
    rw [h.silent hs]
    rfl
  unfold execLaneFaultAssert at ht
  split at ht
  · obtain rfl := Host.Outcome.next.inj ht
    exact h
  · obtain rfl := Host.Outcome.next.inj ht
    rw [hlanes]
    split
    · have hdown : Working ((Machine.emptied s).setLanes (s.lanes.put L { state := .down, abandons := 0 })) :=
        h.emptied.setLanes _ (lanesSound_down h.lanes rfl rfl) fun _ => rfl
      have hlow : Working (((Machine.emptied s).setLanes (s.lanes.put L { state := .down, abandons := 0 })).setPins
          { s.pins with faultLines := s.pins.faultLines.put L true }) :=
        hdown.setPins _ ⟨rfl, rfl⟩ (lanesSound_down h.lanes rfl (PerLane.put_get_other _ _ _))
      have hrest : Working (Machine.emptied (takeLaneDown L (abandonInFlight L (setFaultLine L true s)))) := by
        refine hlow.congr ⟨?_, ?_, ?_, ?_, ?_, ?_, ?_⟩ ?_ ?_ ?_ ?_
        all_goals simp only [Machine.emptied, takeLaneDown_tx, State.setTx_tx, hnext]
        all_goals simp [takeLaneDown_lanes, setFaultLine]
      refine Unsettled.settle ⟨hrest, hbounds.takeLaneDown hidle, fun hs => ?_⟩
      have hsame : (takeLaneDown L (abandonInFlight L (setFaultLine L true s))).node = s.node := by simp [setFaultLine]
      rw [hsame] at hs
      rw [takeLaneDown_tx, hsilent hs]
      rfl
    · next hnotUp =>
      have hlow : Working ((Machine.emptied s).setPins { s.pins with faultLines := s.pins.faultLines.put L true }) := by
        refine h.emptied.setPins _ ⟨rfl, rfl⟩ fun K => ?_
        show laneSound (s.lanes.get K) ((s.pins.faultLines.put L true).get K) = true
        rcases lane_cases L K with rfl | rfl
        · have hlane := h.lanes K
          unfold laneSound at hlane ⊢
          rw [if_neg hnotUp] at hlane ⊢
          exact hlane
        · rw [PerLane.put_get_other]
          exact h.lanes _
      have hrest : Working (Machine.emptied (abandonInFlight L (setFaultLine L true s))) := by
        refine hlow.congr ⟨?_, ?_, ?_, ?_, ?_, ?_, ?_⟩ ?_ ?_ ?_ ?_
        all_goals simp only [Machine.emptied, State.setTx_tx, hnext]
        all_goals simp [setFaultLine]
      exact Unsettled.settle ⟨hrest, hbounds, fun hs => hsilent (hnode ▸ hs)⟩

end Sys2Proof.Machine
end

section
/-! The soundness of every step: received frames, expiries, inputs and heads: O5. -/

namespace Sys2Proof.Machine

open Sys2Proof

/-- Ageing makes no record SELF, and leaves none (R69). -/
theorem agePeer_self (r : PeerRecord) : (agePeer r).state = .self ↔ r.state = .self := by
  unfold agePeer
  cases hs : r.state <;> simp only [PeerState.ages, agedState, if_true, Bool.false_eq_true, if_false, hs, reduceCtorEq, iff_false]
  · split <;> decide
  · split <;> decide

namespace Working
variable {s : State}

/-! ## Received frames -/

theorem putPeer (h : Working s) (n : Station) (r : PeerRecord) (hr : peerSound r = true) (hself : r.state = .self ↔ s.node.station = some n) :
    Working (putPeer n r s) := by
  refine h.setPresence _ fun m => ?_
  show peerSound (update s.presence.peers n r)[m] = true ∧ ((update s.presence.peers n r)[m].state = .self ↔ s.node.station = some m)
  rw [update_get]
  split
  · next hm =>
    subst hm
    exact ⟨hr, hself⟩
  · exact h.peers m

theorem hearPeer (h : Working s) (L : Lane) (n : Station) (crossed : Bool) : Working (hearPeer L n crossed s) := by
  obtain ⟨hsound, hself⟩ := h.peers n
  have hheard (hs : s.presence.peers[n].state ≠ .self) : Working (Machine.putPeer n
      { s.presence.peers[n] with crossed := s.presence.peers[n].crossed || crossed, state := .present, sinceHeard := 0,
                                 sinceLane := s.presence.peers[n].sinceLane.put L 0 } s) :=
    h.putPeer n _ (heardPeer_sound L _ hsound) (iff_of_false PeerState.noConfusion (mt hself.mpr hs))
  unfold Machine.hearPeer
  dsimp only
  split
  · exact h.putPeer n _ hsound hself
  · next hs => exact hheard (by rw [hs]; decide)
  · next hs => exact hheard (by rw [hs]; decide)
  · next hs => exact (hheard (by rw [hs]; decide)).raise _
  · next hs => exact (hheard (by rw [hs]; decide)).raise _

/-- The entry of MUTE from a phase that takes part in the installation (R39, R170). -/
theorem enterMute (h : Working s) (hp : s.node.phase = .listen ∨ s.node.phase = .catchUp ∨ s.node.phase = .running) (n : Station) :
    Working (enterMute n s) := by
  have hfollow : s.node.phase.headsFollow = true := by rcases hp with hp | hp | hp <;> rw [hp] <;> rfl
  have hcommission : s.node.phase ≠ .commission := by rcases hp with hp | hp | hp <;> rw [hp] <;> decide
  exact
    { node := ⟨h.node.ended, Phase.noConfusion, h.node.powered, h.node.released, fun _ => h.node.station hfollow, fun hl => by cases hl⟩
      array := h.array
      idle := fun _ => h.idle hcommission
      unit :=
        { heldList := fun _ _ => rfl
          asker := by
            show (Phase.mute.allowsAsker (if s.catchUp.asker = .finished then .finished else .idle)) = true
            split <;> rfl
          window := by
            show (Timer.stopped.isRunning = true ↔ (if s.catchUp.asker = .finished then AskerState.finished else .idle) = .window)
            split <;> decide
          backoff := by
            show (Timer.stopped.isRunning = true ↔ (0 : ZoneSet) ≠ 0)
            decide
          answers := fun _ => rfl
          room := Nat.zero_le _
          occupies := Nat.zero_le _ }
      silent := fun _ => rfl
      acting := ⟨h.acting.clock, queueSound_empty _ rfl, h.acting.occupancy.congr rfl (fun hc => by cases hc),
        h.acting.heads.congr rfl (fun hc => absurd hc hcommission)⟩
      lanes := h.lanes
      peers := h.peers
      inputs := fun i => ⟨(h.inputs i).1, fun hc => by cases hc⟩ }

theorem stationConflict (h : Working s) (n : Station) : Working (stationConflict n s) := by
  unfold Machine.stationConflict
  split
  · exact h
  · exact h.raise _
  · next hp => exact h.enterMute (.inl hp) n
  · next hp => exact h.enterMute (.inr (.inl hp)) n
  · next hp => exact h.enterMute (.inr (.inr hp)) n
  · exact h.raise _

theorem acceptPresence (h : Working s) (n : Station) (x : Word32) (c : Word16) (p : AnnouncedPhase) (i l : Bool) :
    Working (acceptPresence n x c p i l s) := by
  obtain ⟨hsound, hself⟩ := h.peers n
  have hwritten := h.putPeer n
    { s.presence.peers[n] with checksum := c, phase := some p, incomplete := i, singleLane := l, clock := x,
                               mismatch := mismatches s.zoneStore.checksum c } hsound hself
  unfold Machine.acceptPresence
  dsimp only
  split
  · exact hwritten.raise _
  · exact hwritten

/-- The back-off timer runs exactly while answers are pending (R106). -/
theorem acceptAsk (h : Working s) (wanted : ZoneSet) : Working (acceptAsk wanted s) := by
  unfold Machine.acceptAsk
  split
  · next hp =>
    refine h.setCatchUp _ ⟨h.unit.heldList, h.unit.asker, h.unit.window, ?_, fun hr => absurd hp hr, h.unit.room, h.unit.occupies⟩
    dsimp only
    have hbackoff := h.unit.backoff
    generalize wanted &&& heldZones s.zoneStore = added
    by_cases hnone : s.catchUp.answers ||| added = 0
    · have hidle : s.catchUp.answers = 0 := (BitVec.or_eq_zero_iff.mp hnone).1
      rw [if_neg (fun hc => hc.1 hnone)]
      exact iff_of_false (fun hr => hbackoff.mp hr hidle) (not_not.mpr hnone)
    · cases hr : s.catchUp.backoff.isRunning with
      | true =>
        rw [if_neg (fun hc => by cases hc.2)]
        exact iff_of_true hr hnone
      | false =>
        rw [if_pos ⟨hnone, rfl⟩]
        exact iff_of_true rfl hnone
  · exact h

theorem strikeAnswers (h : Working s) (entries : List SyncEntry) : Working (strikeAnswers entries s) := by
  have hempty (ha : s.catchUp.answers = 0) : entries.foldl (strikeEntry s.zoneStore) s.catchUp.answers = 0 := by
    rw [ha]
    exact foldl_inv (fun answers => answers = 0) _ (fun b e hzero => by rw [hzero, strikeEntry_empty]) entries 0 rfl
  refine h.setCatchUp _ ⟨h.unit.heldList, h.unit.asker, h.unit.window, ?_, fun hr => hempty (h.unit.answers hr), h.unit.room, h.unit.occupies⟩
  dsimp only
  split
  · next hnone => exact iff_of_false Bool.false_ne_true (not_not.mpr hnone)
  · next hsome => exact iff_of_true (h.unit.backoff.mpr (mt hempty hsome)) hsome

/-- Settings merged, zones woken and no more. -/
theorem actedFrame {t : State} (h : Working s) (hf : SameFrame s t) (ha : ActingSound t) (ht : t.tx = s.tx) : Working t :=
  h.acted hf ha fun hs => by rw [ht]; exact h.silent hs

theorem mergeEntries (h : Working s) (entries : List SyncEntry) : Working (mergeEntries entries s) := by
  have hframe : SameFrame s (Machine.mergeEntries entries s) ∧ (Machine.mergeEntries entries s).tx = s.tx := by
    refine foldl_inv (fun t => SameFrame s t ∧ t.tx = s.tx) _ (fun t e ht => ?_) entries s ⟨⟨rfl, rfl, rfl, rfl, rfl, rfl, rfl⟩, rfl⟩
    exact ⟨ht.1.trans ⟨by simp, by simp, by simp, by simp, by simp, by simp, by simp⟩, by simp [ht.2]⟩
  exact h.actedFrame hframe.1 (h.acting.mergeEntries entries) hframe.2

theorem acceptFrame (h : Working s) (f : Frame) : Working (acceptFrame f s) := by
  have hraised : Working (raiseClock f.stamp s) :=
    h.actedFrame ⟨by simp, by simp, by simp, by simp, by simp, by simp, by simp⟩ (h.acting.raiseClock _) (by simp)
  unfold Machine.acceptFrame
  generalize raiseClock f.stamp s = u at hraised
  unfold handleFrame
  split
  · exact hraised.acceptPresence _ _ _ _ _ _
  · exact hraised.actedFrame ⟨by simp, by simp, by simp, by simp, by simp, by simp, by simp⟩ (hraised.acting.acceptSet _ _ _ _ _ _) (by simp)
  · exact hraised.actedFrame ⟨by simp, by simp, by simp, by simp, by simp, by simp, by simp⟩ (hraised.acting.acceptRecall _ _ _ _) (by simp)
  · exact hraised.wakeAll _ _
  · exact hraised.acceptAsk _
  · exact (hraised.mergeEntries _).strikeAnswers _

theorem filterFrame (h : Working s) (L : Lane) (f : Frame) : Working (filterFrame L f s) := by
  have hnoted := h.setFilter { s.filter with
    entries := update s.filter.entries f.origin (judge L f s.filter.timeBase (lanesUp s) s.filter.entries[f.origin]).2 }
  unfold Machine.filterFrame
  dsimp only
  split
  · exact hnoted.acceptFrame f
  · exact ((hnoted.countNode _).raise _).acceptFrame f
  · exact hnoted.countLane _ _
  · exact hnoted.countLane _ _

theorem takeGood (h : Working s) {L : Lane} (hr : laneReceives L s = true) (f : Frame) : Working (takeGood L f s) := by
  have hup := h.bringLaneUp hr
  have hreported : Working (if (Machine.bringLaneUp L s).node.station = some f.origin then
      Machine.stationConflict f.origin (Machine.bringLaneUp L s) else Machine.bringLaneUp L s) := by
    split
    · exact hup.stationConflict _
    · exact hup
  unfold Machine.takeGood
  dsimp only
  refine Working.filterFrame (Working.hearPeer ?_ _ _ _) _ _
  split
  · exact (hreported.countLane _ _).countLane _ _
  · exact hreported.countLane _ _

theorem frameReceived (h : Working s) (L : Lane) (bytes : List Byte) (t : State) (ht : execFrameReceived L bytes s = .next t) :
    Working t := by
  have hbad (c : LaneCounter) : Working (takeBad L c s) := (h.countLane L c).failAttempt L
  unfold execFrameReceived at ht
  split at ht
  · next hr =>
    split at ht
    · exact Host.Outcome.next.inj ht ▸ hbad _
    · exact Host.Outcome.next.inj ht ▸ hbad _
    · exact Host.Outcome.next.inj ht ▸ hbad _
    · exact Host.Outcome.next.inj ht ▸ hbad _
    · split at ht
      · exact Host.Outcome.next.inj ht ▸ h.completeCopy hr
      · exact Host.Outcome.next.inj ht ▸ h.takeGood hr _
  · exact Host.Outcome.next.inj ht ▸ h

/-! ## Expiries -/

theorem presenceExpiry (h : Working s) (t : State) (ht : execPresenceExpiry s = .next t) : Working t := by
  have hpassed := h.passBy s.presence.timer.left
  have hstarted : Working (startPresenceTimer (Machine.passBy s.presence.timer.left s)) := hpassed.setPresence _ hpassed.peers
  have haged (u : State) (hu : Working u) : Working (agePeers u) := by
    have hpeers : Working (u.setPresence { u.presence with peers := mapTable agePeer u.presence.peers }) := by
      refine hu.setPresence _ fun n => ?_
      show peerSound (mapTable agePeer u.presence.peers)[n] = true ∧
        ((mapTable agePeer u.presence.peers)[n].state = .self ↔ u.node.station = some n)
      rw [mapTable_get]
      exact ⟨agePeer_sound _ (hu.peers n).1, (agePeer_self _).trans (hu.peers n).2⟩
    unfold agePeers
    dsimp only
    split
    · exact hpeers
    · exact hpeers.raise _
  have hcounted (u : State) (hu : Working u) : Working (countListenExpiry u) := by
    unfold countListenExpiry
    split
    · next hp =>
      dsimp only
      split
      · exact hu.enterCatchUp hp _
      · next hfew =>
        have hlistening : u.node.listenExpiries + 1 ≤ 1 := Nat.le_of_lt_succ (Nat.lt_of_not_le hfew)
        exact ⟨⟨hu.node.ended, hu.node.out, hu.node.powered, hu.node.released, hu.node.station, fun _ => hlistening⟩, hu.array, hu.idle,
          hu.unit, hu.silent, hu.acting.congr rfl rfl rfl rfl rfl Iff.rfl, hu.lanes, hu.peers, hu.inputs⟩
    · exact hu
  unfold execPresenceExpiry at ht
  split at ht
  · exact Host.Outcome.next.inj ht ▸ hcounted _ (haged _ hstarted).createPresence
  · exact Host.Outcome.next.inj ht ▸ h

theorem catchUpWindowExpiry (h : Working s) (t : State) (ht : execCatchUpWindowExpiry s = .next t) : Working t := by
  unfold execCatchUpWindowExpiry at ht
  split at ht
  · next hrunning =>
    have hp := h.phase_of_asker (.inr (h.unit.window.mp hrunning))
    exact Host.Outcome.next.inj ht ▸ (h.passBy _).enterRunning hp _
  · exact Host.Outcome.next.inj ht ▸ h

/-- The pending zones answered (R108). -/
theorem answerAll (h : Working s) (hp : s.node.phase = .running) : Working (answerAll s) := by
  have hoffered (l : List (List SyncEntry)) : Working (l.foldl
      (fun s entries => (Machine.offerRecord (.syncEntry entries) s.zoneStore.clock s).state) s) ∧
      (l.foldl (fun s entries => (Machine.offerRecord (.syncEntry entries) s.zoneStore.clock s).state) s).node = s.node := by
    refine foldl_inv (fun t => Working t ∧ t.node = s.node) _ (fun t e ht => ?_) l s ⟨h, rfl⟩
    exact ⟨ht.1.offerRecord _ _ rfl (by rw [ht.2, hp]; rfl), by simp [ht.2]⟩
  unfold Machine.answerAll
  obtain ⟨hworking, hnode⟩ := hoffered (groupsOfFour (answerEntries s.zoneStore s.catchUp.answers))
  refine hworking.setCatchUp _ ⟨hworking.unit.heldList, hworking.unit.asker, hworking.unit.window, ?_, fun _ => rfl, hworking.unit.room,
    hworking.unit.occupies⟩
  exact iff_of_false Bool.false_ne_true (not_not.mpr rfl)

theorem backoffExpiry (h : Working s) (t : State) (ht : execBackoffExpiry s = .next t) : Working t := by
  unfold execBackoffExpiry at ht
  split at ht
  · next hrunning =>
    have hp : s.node.phase = .running := by
      by_contra hp
      exact h.unit.backoff.mp hrunning (h.unit.answers hp)
    exact Host.Outcome.next.inj ht ▸ (h.passBy _).answerAll hp
  · exact Host.Outcome.next.inj ht ▸ h

end Working

end Sys2Proof.Machine
end

section
/-! The soundness of every step: the Occupancy Unit's expiries, the input lines and the heads: O5. -/

namespace Sys2Proof.Machine

open Sys2Proof

/-! ## Occupancy records whose time ends -/

theorem recordSound_vacant (cfg : OccupancyConfig) (r : OccupancyRecord) (h : recordSound cfg r = true) (hr : r.state ≠ .follow) :
    recordSound cfg { r with state := .vacant, timer := if cfg.vacant = 0 then .stopped else .running (vacantTime cfg.vacant),
                             overtaken := false } = true := by
  simp only [recordSound, Bool.and_eq_true, Bool.or_eq_true, beq_iff_eq, decide_eq_true_eq, Bool.not_false, true_or, and_true] at h ⊢
  obtain ⟨⟨⟨hpercent, henable⟩, _⟩, _⟩ := h
  refine ⟨⟨hpercent, .inl (henable.resolve_right hr)⟩, ?_⟩
  split
  · next hnone => rw [hnone]; rfl
  · next hsome => exact (bne_iff_ne.mpr hsome).symm

theorem recordSound_dark (cfg : OccupancyConfig) (r : OccupancyRecord) (h : recordSound cfg r = true) (hr : r.state ≠ .follow) :
    recordSound cfg { r with state := .dark, timer := .stopped, overtaken := false } = true := by
  simp only [recordSound, Bool.and_eq_true, Bool.or_eq_true, beq_iff_eq, decide_eq_true_eq, Bool.not_false, true_or, and_true] at h ⊢
  obtain ⟨⟨⟨hpercent, henable⟩, _⟩, _⟩ := h
  exact ⟨hpercent, .inl (henable.resolve_right hr)⟩

theorem recordSound_past (cfg : OccupancyConfig) (r : OccupancyRecord) (h : recordSound cfg r = true) :
    recordSound cfg { r with overtaken := false } = true := by
  simp only [recordSound, Bool.and_eq_true, Bool.not_false, Bool.true_or, and_true] at h ⊢
  exact ⟨h.1.1, h.2⟩

namespace Working
variable {s : State}

theorem changeOccupancy (h : Working s) (z : Zone) (r : OccupancyRecord) (hr : recordSound s.occupancy.config[z] r = true)
    (hc : s.node.phase = .commission → r.state = .follow) : Working (changeOccupancy z r s) :=
  h.actedFrame ⟨by simp, by simp, by simp, by simp, by simp, by simp, by simp⟩ (h.acting.changeOccupancy z r hr hc) (by simp)

/-- A zone that does not FOLLOW is not in COMMISSION (R121). -/
theorem phase_of_record (h : Working s) (z : Zone) (hr : s.occupancy.records[z].state ≠ .follow) : s.node.phase ≠ .commission :=
  fun hc => hr ((h.acting.occupancy z).2 hc)

theorem becomeVacant (h : Working s) (z : Zone) (hr : s.occupancy.records[z].state ≠ .follow) : Working (becomeVacant z s) :=
  h.changeOccupancy z _ (recordSound_vacant _ _ (h.acting.occupancy z).1 hr) fun hc => absurd hc (h.phase_of_record z hr)

theorem becomeDark (h : Working s) (z : Zone) (hr : s.occupancy.records[z].state ≠ .follow) : Working (becomeDark z s) :=
  h.changeOccupancy z _ (recordSound_dark _ _ (h.acting.occupancy z).1 hr) fun hc => absurd hc (h.phase_of_record z hr)

theorem passBy_record_state (n : Nat) (z : Zone) : (Machine.passBy n s).occupancy.records[z].state = s.occupancy.records[z].state := by
  rw [passBy_occupancyRecords, mapTable_get]

theorem graceExpiry (h : Working s) (z : Zone) (t : State) (ht : execGraceExpiry z s = .next t) : Working t := by
  unfold execGraceExpiry at ht
  dsimp only at ht
  split at ht
  · next hdue =>
    have hr : s.occupancy.records[z].state ≠ .follow := by rw [hdue.1]; decide
    split at ht
    · refine Host.Outcome.next.inj ht ▸ h.actedFrame ⟨rfl, rfl, rfl, rfl, rfl, rfl, rfl⟩ (h.acting.putOccupancy z _ ?_ ?_) rfl
      · exact recordSound_past _ _ (h.acting.occupancy z).1
      · exact (h.acting.occupancy z).2
    · exact Host.Outcome.next.inj ht ▸ (h.passBy _).becomeVacant z (by rw [passBy_record_state]; exact hr)
  · exact Host.Outcome.next.inj ht ▸ h

theorem vacantExpiry (h : Working s) (z : Zone) (t : State) (ht : execVacantExpiry z s = .next t) : Working t := by
  unfold execVacantExpiry at ht
  dsimp only at ht
  split at ht
  · next hdue =>
    have hr : s.occupancy.records[z].state ≠ .follow := by rw [hdue.1]; decide
    exact Host.Outcome.next.inj ht ▸ (h.passBy _).becomeDark z (by rw [passBy_record_state]; exact hr)
  · exact Host.Outcome.next.inj ht ▸ h

/-! ## Heads -/

theorem fadeTick (h : Working s) (t : State) (ht : execFadeTick s = .next t) : Working t := by
  have hticked (u : State) (hu : Working u) : Working (takeFadeTick u) := by
    refine hu.setHeads _ fun ch => ?_
    obtain ⟨hsound, houtput, hdark⟩ := hu.acting.heads ch
    show channelSound (mapTable fadeStep u.heads.channels)[ch] = true ∧ u.heads.outputs[ch] ≤ 4095 ∧
      (u.node.phase ≠ .commission → channelDark u.heads ch = true → (mapTable fadeStep u.heads.channels)[ch] = maskedChannel)
    rw [mapTable_get]
    exact ⟨fadeStep_sound _ hsound, houtput, fun hp hd => by rw [hdark hp hd]; rfl⟩
  unfold execFadeTick at ht
  split at ht
  · exact Host.Outcome.next.inj ht ▸ hticked _ (h.passBy _)
  · exact Host.Outcome.next.inj ht ▸ h

theorem pwmPeriodStart (h : Working s) (t : State) (ht : execPwmPeriodStart s = .next t) : Working t := by
  have hstarted (u : State) (hu : Working u) : Working (startPeriod u) := by
    refine hu.setHeads _ fun ch => ?_
    obtain ⟨hsound, _, hdark⟩ := hu.acting.heads ch
    show channelSound u.heads.channels[ch] = true ∧ (mapTable (fun c => c.buffer) u.heads.channels)[ch] ≤ 4095 ∧
      (u.node.phase ≠ .commission → channelDark u.heads ch = true → u.heads.channels[ch] = maskedChannel)
    obtain ⟨hcurrent, _, _, hbuffer, _⟩ := (channelSound_iff _).mp hsound
    rw [mapTable_get]
    exact ⟨hsound, hbuffer ▸ hcurrent, hdark⟩
  unfold execPwmPeriodStart at ht
  split at ht
  · exact Host.Outcome.next.inj ht ▸ hstarted _ (h.passBy _)
  · exact Host.Outcome.next.inj ht ▸ h

/-! ## Inputs -/

theorem putInput (h : Working s) (i : Line) (r : InputRecord) (hr : inputSound s.inputs.config[i] r = true)
    (hc : s.node.phase = .commission → r = .reset) : Working (putInput i r s) := by
  refine h.setInputs _ fun j => ?_
  show inputSound s.inputs.config[j] (update s.inputs.records i r)[j] = true ∧
    (s.node.phase = .commission → (update s.inputs.records i r)[j] = .reset)
  rw [update_get]
  split
  · next hj =>
    subst hj
    exact ⟨hr, hc⟩
  · exact h.inputs j

theorem requestOfKind (h : Working s) (kind : InputKind) : Working (requestOfKind kind s) := by
  cases kind with
  | unused => exact h
  | sensor zone => exact h.requestOccupy _ _
  | _ => exact h.requestByPhase _

end Working

/-- The debounce timer bears on no other field of a used input's soundness. -/
theorem inputSound_debounce (cfg : InputConfig) (r : InputRecord) (t : Timer) (hu : cfg.used = true) (h : inputSound cfg r = true) :
    inputSound cfg { r with debounce := t } = true := by
  unfold inputSound InputConfig.used at *
  cases hk : cfg.kind <;> simp only [hk] at h hu ⊢
  · cases hu
  · exact h
  · exact h
  · exact h

/-- An input on which a timer runs is used: the record of an unused one holds its reset values (R134). -/
theorem used_of_record (cfg : InputConfig) (r : InputRecord) (h : inputSound cfg r = true) (hr : r ≠ .reset) : cfg.used = true := by
  unfold inputSound InputConfig.used at *
  cases hk : cfg.kind <;> simp only [hk, Bool.and_eq_true, beq_iff_eq] at h ⊢
  exact absurd h.2 hr

/-- A settled activation starts the timer of the input's kind (R139, R142). -/
theorem inputSound_activated (cfg : InputConfig) (r : InputRecord) (hu : cfg.used = true) (h : inputSound cfg r = true) :
    inputSound cfg (startInputTimer cfg.kind { r with active := true, debounce := .stopped }) = true := by
  unfold inputSound InputConfig.used at *
  cases hk : cfg.kind with
  | unused => simp [hk] at hu
  | sensor zone =>
    simp only [hk, Bool.and_eq_true, startInputTimer, Bool.true_or, true_and] at h ⊢
    exact h.2
  | action kind zone step =>
    simp only [hk, Bool.and_eq_true, startInputTimer, Bool.or_eq_true] at h ⊢
    split
    · next hrep => exact ⟨.inl rfl, .inl hrep, h.2.2⟩
    · exact ⟨.inl rfl, h.2.1, h.2.2⟩
  | _ =>
    simp only [hk, Bool.and_eq_true, startInputTimer, Bool.true_or, true_and] at h ⊢
    exact h.2

/-- A released input has neither timer running (R137). -/
theorem inputSound_released (cfg : InputConfig) (r : InputRecord) (hu : cfg.used = true) :
    inputSound cfg { r with active := false, debounce := .stopped, repeating := .stopped, refresh := .stopped } = true := by
  unfold inputSound InputConfig.used at *
  cases hk : cfg.kind <;> simp [hk] at hu ⊢

theorem inputSound_repeating (cfg : InputConfig) (r : InputRecord) (n : Nat) (h : inputSound cfg r = true) (hr : r.repeating ≠ .stopped) :
    inputSound cfg { r with repeating := .running n } = true := by
  simp only [inputSound, Bool.and_eq_true, Bool.or_eq_true, beq_iff_eq] at h ⊢
  obtain ⟨hactive, hkind⟩ := h
  refine ⟨.inl (hactive.resolve_right fun hs => hr hs.1), ?_⟩
  cases hk : cfg.kind <;> simp only [hk, Bool.and_eq_true, Bool.or_eq_true, beq_iff_eq] at hkind ⊢
  · exact absurd (congrArg InputRecord.repeating hkind) hr
  · exact absurd hkind hr
  · exact absurd hkind.1 hr
  · exact ⟨.inl (hkind.1.resolve_right hr), hkind.2⟩

theorem inputSound_refresh (cfg : InputConfig) (r : InputRecord) (n : Nat) (h : inputSound cfg r = true) (hr : r.refresh ≠ .stopped) :
    inputSound cfg { r with refresh := .running n } = true := by
  simp only [inputSound, Bool.and_eq_true, Bool.or_eq_true, beq_iff_eq] at h ⊢
  obtain ⟨hactive, hkind⟩ := h
  refine ⟨.inl (hactive.resolve_right fun hs => hr hs.2), ?_⟩
  cases hk : cfg.kind <;> simp only [hk, Bool.and_eq_true, Bool.or_eq_true, beq_iff_eq] at hkind ⊢
  · exact absurd (congrArg InputRecord.refresh hkind) hr
  · exact hkind
  · exact absurd hkind.2 hr
  · exact absurd hkind.2 hr

namespace Working
variable {s : State}

theorem inputLevelChange (h : Working s) (i : Line) (high : Bool) (t : State) (ht : execInputLevelChange i high s = .next t) :
    Working t := by
  have hmoved : Working (s.setPins { s.pins with inputLines := update s.pins.inputLines i high }) := h.setPins _ ⟨rfl, rfl⟩ h.lanes
  have hdebounced (hf : (s.node.phase.inputsFollowed && s.inputs.config[i].used) = true) (d : Timer) :
      Working (Machine.putInput i { s.inputs.records[i] with debounce := d }
        (s.setPins { s.pins with inputLines := update s.pins.inputLines i high })) := by
    obtain ⟨hfollowed, hused⟩ := Bool.and_eq_true_iff.mp hf
    exact hmoved.putInput i _ (inputSound_debounce _ _ d hused (h.inputs i).1) fun hc => by
      rw [show s.node.phase = .commission from hc] at hfollowed
      cases hfollowed
  unfold execInputLevelChange at ht
  dsimp only at ht
  split at ht
  · exact Host.Outcome.next.inj ht ▸ h
  · split at ht
    · next hf =>
      split at ht
      · exact Host.Outcome.next.inj ht ▸ hdebounced hf _
      · exact Host.Outcome.next.inj ht ▸ hdebounced hf _
    · exact Host.Outcome.next.inj ht ▸ hmoved

/-- An input with a record out of reset is not in COMMISSION (R134). -/
theorem phase_of_input (h : Working s) (i : Line) (hr : s.inputs.records[i] ≠ .reset) : s.node.phase ≠ .commission :=
  fun hc => hr ((h.inputs i).2 hc)

theorem settleInput (h : Working s) (i : Line) (hr : s.inputs.records[i] ≠ .reset) : Working (settleInput i s) := by
  have hsound := (h.inputs i).1
  have hused := used_of_record _ _ hsound hr
  have hput (r : InputRecord) (hs : inputSound s.inputs.config[i] r = true) : Working (Machine.putInput i r s) :=
    h.putInput i r hs fun hc => absurd hc (h.phase_of_input i hr)
  unfold Machine.settleInput
  dsimp only
  cases hnew : sensedActive s.inputs.config[i] s.pins.inputLines[i] with
  | true =>
    cases hold : s.inputs.records[i].active with
    | false => exact (hput _ (inputSound_activated _ _ hused hsound)).requestOfKind _
    | true =>
      refine hput _ ?_
      have := inputSound_debounce _ _ .stopped hused hsound
      rwa [hold] at this
  | false =>
    cases hold : s.inputs.records[i].active with
    | true =>
      exact hput _ (inputSound_released _ s.inputs.records[i] hused)
    | false =>
      refine hput _ ?_
      have := inputSound_debounce _ _ .stopped hused hsound
      rwa [hold] at this

/-- A timer of an input that restarts as it ends makes the request of the input's kind again (R139, R142). -/
theorem requestAgain (h : Working s) (i : Line) (r : InputRecord) (hr : inputSound s.inputs.config[i] r = true)
    (hrecord : s.inputs.records[i] ≠ .reset) : Working (Machine.requestOfKind s.inputs.config[i].kind (Machine.putInput i r s)) :=
  (h.putInput i r hr fun hc => absurd hc (h.phase_of_input i hrecord)).requestOfKind _

theorem repeatInput (h : Working s) (i : Line) (hr : s.inputs.records[i].repeating ≠ .stopped) : Working (repeatInput i s) :=
  h.requestAgain i _ (inputSound_repeating _ _ _ (h.inputs i).1 hr) (ne_of_apply_ne InputRecord.repeating hr)

theorem refreshInput (h : Working s) (i : Line) (hr : s.inputs.records[i].refresh ≠ .stopped) : Working (refreshInput i s) :=
  h.requestAgain i _ (inputSound_refresh _ _ _ (h.inputs i).1 hr) (ne_of_apply_ne InputRecord.refresh hr)

theorem passBy_input_timers (n : Nat) (i : Line) :
    (Machine.passBy n s).inputs.records[i].debounce = s.inputs.records[i].debounce.after n ∧
      (Machine.passBy n s).inputs.records[i].repeating = s.inputs.records[i].repeating.after n ∧
      (Machine.passBy n s).inputs.records[i].refresh = s.inputs.records[i].refresh.after n := by
  rw [passBy_inputRecords, mapTable_get]
  exact ⟨rfl, rfl, rfl⟩

theorem debounceExpiry (h : Working s) (i : Line) (t : State) (ht : execDebounceExpiry i s = .next t) : Working t := by
  unfold execDebounceExpiry at ht
  dsimp only at ht
  split at ht
  · next hruns =>
    refine Host.Outcome.next.inj ht ▸ (h.passBy _).settleInput i (ne_of_apply_ne InputRecord.debounce ?_)
    rw [(passBy_input_timers _ i).1]
    exact mt Timer.after_eq_stopped.mp (Timer.ne_of_isRunning hruns)
  · exact Host.Outcome.next.inj ht ▸ h

theorem repeatExpiry (h : Working s) (i : Line) (t : State) (ht : execRepeatExpiry i s = .next t) : Working t := by
  unfold execRepeatExpiry at ht
  dsimp only at ht
  split at ht
  · next hruns =>
    refine Host.Outcome.next.inj ht ▸ (h.passBy _).repeatInput i ?_
    rw [(passBy_input_timers _ i).2.1]
    exact mt Timer.after_eq_stopped.mp (Timer.ne_of_isRunning hruns)
  · exact Host.Outcome.next.inj ht ▸ h

theorem refreshExpiry (h : Working s) (i : Line) (t : State) (ht : execRefreshExpiry i s = .next t) : Working t := by
  unfold execRefreshExpiry at ht
  dsimp only at ht
  split at ht
  · next hruns =>
    refine Host.Outcome.next.inj ht ▸ (h.passBy _).refreshInput i ?_
    rw [(passBy_input_timers _ i).2.2]
    exact mt Timer.after_eq_stopped.mp (Timer.ne_of_isRunning hruns)
  · exact Host.Outcome.next.inj ht ▸ h

end Working

end Sys2Proof.Machine
end

section
/-! The soundness of every step: resets, requests of the port, and byte writes: O5. -/

namespace Sys2Proof.Machine

open Sys2Proof

/-! ## The node at its reset values -/

/-- Every block at its reset values, whatever the lines outside say (R162). -/
structure AtReset (s : State) : Prop where
  stage : s.node.loading = .held
  phase : s.node.phase = .loading
  closed : s.port = .closed
  array : StoreWf s
  idle : s.store.write = .idle
  quiet : LoadingQuiet s

/-- Without a byte write, and the store not yet checked, nothing is asked of the writes. -/
theorem writeSound_idle {s : State} (hw : s.store.write = .idle) (hf : ∀ found, s.node.loading ≠ .checked found) : WriteSound s where
  where_ := fun a v n h => by
    rw [hw] at h
    cases h
  under := fun found h => absurd h (hf found)
  percents := fun c h => absurd h (hf _)

theorem resetBlocks_atReset (kind : ResetKind) (interrupted : Bool) (array : Memory) (s : State) (hm : Memory.wf array = true) :
    AtReset (resetBlocks kind interrupted array s) :=
  ⟨rfl, rfl, rfl, ⟨hm, Nat.zero_le _⟩, rfl, fun _ => ⟨rfl, rfl, rfl, rfl, rfl, rfl, rfl, rfl, rfl, rfl, rfl⟩⟩

namespace AtReset
variable {s : State}

theorem setPins (h : AtReset s) (x : Pins) : AtReset (s.setPins x) := ⟨h.stage, h.phase, h.closed, h.array, h.idle, h.quiet⟩

theorem setCause (h : AtReset s) (x : ResetCause) : AtReset (s.setNode { s.node with cause := x }) :=
  ⟨h.stage, h.phase, h.closed, h.array, h.idle, h.quiet⟩

theorem resetFilter (h : AtReset s) : AtReset (s.setFilter .reset) :=
  ⟨h.stage, h.phase, h.closed, h.array, h.idle, fun hne => ⟨(h.quiet hne).1, rfl, (h.quiet hne).2.2⟩⟩

/-- Held by the RESET line or by the supply's absence (R162). -/
theorem starting (h : AtReset s) (hp : s.pins.supply = false ∨ s.pins.resetLine = true) : Starting s where
  stage := by simp [h.stage]
  phase := h.phase
  held := iff_of_true h.stage hp
  closed := fun _ => h.closed
  array := h.array
  write := writeSound_idle h.idle (by simp [h.stage])
  quiet := h.quiet

/-- LOADING begins once neither holds the node (R162). -/
theorem beginLoading (h : AtReset s) (hs : s.pins.supply = true) (hr : s.pins.resetLine = false) : Starting (beginLoading s) where
  stage := LoadingStage.noConfusion
  phase := h.phase
  held := iff_of_false LoadingStage.noConfusion (by simp [Machine.beginLoading, hs, hr])
  closed := fun _ => h.closed
  array := h.array
  write := writeSound_idle h.idle fun _ => LoadingStage.noConfusion
  quiet := fun _ => h.quiet (by simp [h.stage])

end AtReset

/-- A node that is held is at its reset values. -/
theorem Starting.atReset {s : State} (h : Starting s) (hp : s.pins.supply = false ∨ s.pins.resetLine = true) : AtReset s where
  stage := h.held.mpr hp
  phase := h.phase
  closed := h.closed (h.held.mpr hp)
  array := h.array
  idle := by
    have hheld := h.held.mpr hp
    cases hw : s.store.write with
    | idle => rfl
    | writing a v n =>
      rcases h.write.where_ a v n hw with hc | ⟨_, hne, _⟩
      · rw [h.phase] at hc
        cases hc
      · exact absurd hheld hne
  quiet := h.quiet

namespace Sound
variable {s : State}

theorem atReset (h : Sound s) (hp : s.pins.supply = false ∨ s.pins.resetLine = true) : AtReset s :=
  (h.starting (by simp [h.phase.held.mpr hp])).atReset hp

/-- A reset with a byte write cut off, on any outside lines. -/
theorem cutOff (h : Sound s) (kind : ResetKind) (interrupted : Bool) (x : Pins) :
    AtReset (resetBlocks kind interrupted (cutOffWrite s.store) (s.setPins x)) :=
  resetBlocks_atReset _ _ _ _ (cutOffWrite_wf _ h.store.1)

theorem powerOn (h : Sound s) (t : State) (ht : execPowerOn s = .next t) : Sound t := by
  have hbase := (h.cutOff .powerOn false { s.pins with supply := true }).resetFilter
  unfold execPowerOn at ht
  dsimp only at ht
  split at ht
  · next hr => exact Host.Outcome.next.inj ht ▸ (hbase.starting (.inr hr)).sound
  · next hr => exact Host.Outcome.next.inj ht ▸ (hbase.beginLoading rfl (Bool.not_eq_true _ ▸ hr)).sound

theorem lossOfSupply (h : Sound s) (t : State) (ht : execLossOfSupply s = .next t) : Sound t :=
  Host.Outcome.next.inj ht ▸ ((h.cutOff .powerOn false { s.pins with supply := false }).resetFilter.starting (.inl rfl)).sound

theorem resetLineAssert (h : Sound s) (t : State) (ht : execResetLineAssert s = .next t) : Sound t := by
  unfold execResetLineAssert at ht
  dsimp only at ht
  split at ht
  · exact Host.Outcome.next.inj ht ▸ h
  · split at ht
    · exact Host.Outcome.next.inj ht ▸ ((h.cutOff _ _ { s.pins with resetLine := true }).starting (.inr rfl)).sound
    · next hs => exact Host.Outcome.next.inj ht ▸ (((h.atReset (.inl (Bool.not_eq_true _ ▸ hs))).setPins _).starting (.inr rfl)).sound

theorem resetLineRelease (h : Sound s) (t : State) (ht : execResetLineRelease s = .next t) : Sound t := by
  unfold execResetLineRelease at ht
  dsimp only at ht
  split at ht
  · next hr =>
    have hreleased := (h.atReset (.inr hr)).setPins { s.pins with resetLine := false }
    split at ht
    · next hs => exact Host.Outcome.next.inj ht ▸ ((hreleased.setCause _).beginLoading hs rfl).sound
    · next hs => exact Host.Outcome.next.inj ht ▸ (hreleased.starting (.inl (Bool.not_eq_true _ ▸ hs))).sound
  · exact Host.Outcome.next.inj ht ▸ h

/-- The reset of an accepted RESTART, in a node that is not held (R163). -/
theorem takeRestart (h : Sound s) (hs : s.pins.supply = true) (hr : s.pins.resetLine = false) : Sound (takeRestart s) :=
  ((resetBlocks_atReset .restart false _ s h.store.1).beginLoading hs hr).sound

/-- The end of a transaction: none is open while the node is held, so a RESTART finds it released (R163). -/
theorem chipSelectRelease (h : Sound s) (t : State) (ht : execChipSelectRelease s = .next t) : Sound t := by
  have hclosed : Sound (s.setPort .closed) := by
    by_cases he : s.node.loading = .ended
    · exact ((h.working he).setPort _).sound
    · have hstarting := h.starting he
      exact Starting.sound
        ⟨hstarting.stage, hstarting.phase, hstarting.held, fun _ => rfl, hstarting.array, ⟨hstarting.write.where_, hstarting.write.under,
          hstarting.write.percents⟩, hstarting.quiet⟩
  unfold execChipSelectRelease at ht
  split at ht
  · next hport =>
    have hreleased : ¬ (s.pins.supply = false ∨ s.pins.resetLine = true) := fun hp => by
      rw [(h.atReset hp).closed] at hport
      cases hport
    rw [not_or, Bool.not_eq_false, Bool.not_eq_true] at hreleased
    exact Host.Outcome.next.inj ht ▸ h.takeRestart hreleased.1 hreleased.2
  · exact Host.Outcome.next.inj ht ▸ hclosed
  · exact Host.Outcome.next.inj ht ▸ hclosed
  · exact Host.Outcome.next.inj ht ▸ h

end Sound

/-! ## Requests -/

/-- A request that is not refused has passed the tests that bear on it (R184). -/
theorem screen_passed {α : Type} (which : Screening) (arg : Option α) (act : α → State → Served) (s : State) :
    (screen which arg act s).state = s ∨ ∃ x, arg = some x ∧ (s.node.phase = .loading → which.isStatus = true) ∧
      (which.isWrite = true → s.node.phase = .commission) ∧ (screen which arg act s).state = (act x s).state := by
  unfold screen
  split
  · exact .inl rfl
  · next hstatus =>
    split
    · exact .inl rfl
    · next hwrite =>
      split
      · exact .inl rfl
      · next x =>
        split
        · exact .inl rfl
        · refine .inr ⟨x, rfl, fun hl => ?_, fun hw => ?_, rfl⟩
          · exact Bool.not_eq_false _ ▸ fun hf => hstatus ⟨hl, hf⟩
          · exact not_not.mp fun hp => hwrite ⟨hw, hp⟩

namespace Working
variable {s t : State} {α : Type} {which : Screening} {arg : Option α} {act : α → State → Served}

theorem serve (h : Working s)
    (hact : ∀ x, arg = some x → (which.isWrite = true → s.node.phase = .commission) → Working (act x s).state)
    (ht : serve which arg act s = .next t) : Working t := by
  have hscreened : Working (screen which arg act s).state := by
    rcases screen_passed which arg act s with hrefused | ⟨x, harg, _, hwrite, hserved⟩
    · rw [hrefused]
      exact h
    · rw [hserved]
      exact hact x harg hwrite
  unfold Machine.serve at ht
  split at ht
  · exact Host.Outcome.next.inj ht ▸ hscreened.setPort _
  · exact Host.Outcome.next.inj ht ▸ h
  · exact Host.Outcome.next.inj ht ▸ h

/-- A request that reads, and at most clears what soundness does not speak of. -/
theorem serve_of_act (h : Working s) (hact : ∀ x, Working (act x s).state) (ht : Machine.serve which arg act s = .next t) : Working t :=
  h.serve (fun x _ _ => hact x) ht

theorem setPointer (h : Working s) (n : Nat) (d : Direction) (hn : n ≤ Config.storeBytes) :
    Working (s.setStore { s.store with pointer := n, direction := d }) :=
  h.setStore _ ⟨h.array.1, hn⟩ h.idle

theorem nextEvent (h : Working s) (ht : execNextEvent s = .next t) : Working t := by
  refine h.serve_of_act (fun _ => ?_) ht
  dsimp only
  split
  · exact h
  · exact h.setEvents _

theorem configPoint (h : Working s) (address : Word16) (ht : execConfigPoint address s = .next t) : Working t := by
  refine h.serve (fun a ha _ => h.setPointer a .none ?_) ht
  unfold pointArg at ha
  split at ha
  · cases ha
  · next hin =>
    obtain rfl := Option.some.inj ha
    unfold Config.storeBytes
    omega

theorem configRead (h : Working s) (count : Byte) (ht : execConfigRead count s = .next t) : Working t := by
  refine h.serve (fun n hn _ => h.setPointer _ .read ?_) ht
  unfold readArg at hn
  split at hn
  · cases hn
  · next hin =>
    obtain rfl := Option.some.inj hn
    omega

theorem configWrite (h : Working s) (value : Byte) (ht : execConfigWrite value s = .next t) : Working t :=
  h.serve (fun a _ hwrite => h.setStore { s.store with direction := .write, write := .writing a value writeTime } h.array
    fun hp => absurd (hwrite rfl) hp) ht

theorem badRequest (h : Working s) (code : Byte) (ht : execBadRequest code s = .next t) : Working t := by
  unfold execBadRequest at ht
  split at ht
  · exact Host.Outcome.next.inj ht ▸ h.setPort _
  · exact Host.Outcome.next.inj ht ▸ h

theorem chipSelectAssert (h : Working s) (ht : execChipSelectAssert s = .next t) : Working t := by
  unfold execChipSelectAssert at ht
  split at ht
  · exact Host.Outcome.next.inj ht ▸ h.setPort _
  · exact Host.Outcome.next.inj ht ▸ h

theorem configWriteDone (h : Working s) (ht : execConfigWriteDone s = .next t) : Working t := by
  unfold execConfigWriteDone at ht
  split at ht
  · exact Host.Outcome.next.inj ht ▸ h
  · exact Host.Outcome.next.inj ht ▸ h
  · next a v n _ hw =>
    have hpassed : Working (endOfWrite s) := h.passBy _
    exact Host.Outcome.next.inj ht ▸ (hpassed.setStore _ ⟨write_wf _ a v hpassed.array.1, min_le_left _ _⟩ fun _ => rfl).raise _

end Working

end Sys2Proof.Machine
end

section
/-! The soundness of every step: the end of LOADING: O5. -/

namespace Sys2Proof.Machine

open Sys2Proof

/-! ## The blocks a configuration has been handed to -/

/-- The end of LOADING with the configuration handed over and no phase entered yet: the records are at their reset values under it (R166). -/
structure Handed (s : State) : Prop where
  ended : s.node.loading = .ended
  powered : s.pins.supply = true
  released : s.pins.resetLine = false
  array : StoreWf s
  idle : s.store.write = .idle
  lanes : s.lanes = State.reset.lanes
  unit : s.catchUp = State.reset.catchUp
  queue : s.tx = State.reset.tx
  clock : ClockSound s
  peers : PeersSound s
  percents : ∀ z : Zone, s.occupancy.config[z].percent ≤ 100
  occupancy : ∀ z : Zone, s.occupancy.records[z] = .reset
  inputs : ∀ i : Line, s.inputs.records[i] = .reset
  channels : ∀ ch : Channel, s.heads.channels[ch] = .reset
  outputs : ∀ ch : Channel, s.heads.outputs[ch] = 0

theorem recordSound_reset (cfg : OccupancyConfig) (h : cfg.percent ≤ 100) : recordSound cfg .reset = true := by
  simp [recordSound, OccupancyRecord.reset, h]

/-- The records of enabled zones at the entry of LISTEN (R121). -/
theorem recordSound_start (cfg : OccupancyConfig) (h : cfg.percent ≤ 100) (he : cfg.enable = true) :
    recordSound cfg { state := .occupied, timer := .running (graceTime cfg.grace), cause := .start, overtaken := false } = true := by
  simp [recordSound, h, he, Timer.isRunning]

theorem inputSound_reset (cfg : InputConfig) : inputSound cfg .reset = true := by
  unfold inputSound
  cases cfg.kind with
  | action k zone step => simp [InputRecord.reset]
  | _ => rfl

/-- An input as the entry of LISTEN finds it (R135). -/
theorem inputSound_sensed (cfg : InputConfig) (high : Bool) : inputSound cfg (senseInput cfg high .reset) = true := by
  unfold inputSound senseInput
  cases cfg.kind with
  | unused => rfl
  | action k zone step => simp
  | _ => cases sensedActive cfg high <;> rfl

/-- A lane as the entry of COMMISSION or LISTEN leaves it (R45). -/
theorem laneSound_entry (enabled fault : Bool) : laneSound (laneAtEntry enabled fault .reset) fault = true := by
  cases enabled <;> cases fault <;> rfl

theorem handed_channel {s : State} (h : Handed s) (ch : Channel) :
    channelSound s.heads.channels[ch] = true ∧ s.heads.outputs[ch] ≤ 4095 ∧ s.heads.channels[ch] = maskedChannel := by
  rw [h.channels ch, h.outputs ch]
  exact ⟨by decide, by decide, rfl⟩

namespace Handed
variable {s : State} (h : Handed s) (use : PerLane Bool)
include h

theorem lanesSound : LanesSound (enterLanes use s) := by
  intro L
  rw [enterLanes_get, h.lanes]
  cases L <;> exact laneSound_entry _ _

theorem unitSound_phase (p : Phase) (hp : p = .commission ∨ p = .listen) : UnitSound p s.catchUp := by
  rw [h.unit]
  constructor <;> rcases hp with rfl | rfl <;> decide

theorem commission : Working (enterCommission use s) where
  node := ⟨h.ended, Phase.noConfusion, h.powered, h.released, fun hf => (by cases hf), fun hl => by cases hl⟩
  array := h.array
  idle := fun _ => h.idle
  unit := h.unitSound_phase _ (.inl rfl)
  silent := fun _ => congrArg TransmitQueue.records h.queue
  acting :=
    { clock := h.clock
      queue := queueSound_empty _ (congrArg TransmitQueue.records h.queue)
      occupancy := fun z => by
        show recordSound s.occupancy.config[z] s.occupancy.records[z] = true ∧ (_ → s.occupancy.records[z].state = .follow)
        rw [h.occupancy z]
        exact ⟨recordSound_reset _ (h.percents z), fun _ => rfl⟩
      heads := fun ch => by
        rw [enterCommission_channel]
        exact ⟨startFade_sound _ _ _ (by decide) (handed_channel h ch).1, (handed_channel h ch).2.1, fun hp => absurd rfl hp⟩ }
  lanes := h.lanesSound use
  peers := h.peers
  inputs := fun i => by
    show inputSound s.inputs.config[i] s.inputs.records[i] = true ∧ (_ → s.inputs.records[i] = .reset)
    rw [h.inputs i]
    exact ⟨inputSound_reset _, fun _ => rfl⟩

theorem occupied : OccupancySound (senseInputs (occupyEnabled (listening use s))) := by
  intro z
  have hrecord := occupyEnabled_record (listening use s) z
  rw [show (listening use s).occupancy = s.occupancy from rfl, h.occupancy z] at hrecord
  simp only [senseInputs_frame, occupyEnabled_config, occupyEnabled_frame, hrecord]
  refine ⟨?_, fun hc => by cases hc⟩
  show recordSound s.occupancy.config[z] _ = true
  split
  · next he => exact recordSound_start _ (h.percents z) he
  · exact recordSound_reset _ (h.percents z)

theorem listen (hstation : s.node.station.isSome = true) : Working (enterListen use s) := by
  have hfresh : HeadsSound (senseInputs (occupyEnabled (listening use s))) := fun ch => by
    simp only [senseInputs_frame, occupyEnabled_frame]
    exact ⟨(handed_channel h ch).1, (handed_channel h ch).2.1, fun _ _ => (handed_channel h ch).2.2⟩
  exact
    { node := by
        rw [enterListen_node, (enterListen_frame use s).1]
        exact ⟨h.ended, Phase.noConfusion, h.powered, h.released, fun _ => hstation, fun _ => Nat.zero_le _⟩
      array := by
        unfold StoreWf
        rw [(enterListen_frame use s).2.2.2.2.2.2.1]
        exact h.array
      idle := fun _ => by
        rw [(enterListen_frame use s).2.2.2.2.2.2.1]
        exact h.idle
      unit := by
        rw [enterListen_node, (enterListen_frame use s).2.2.2.1]
        exact h.unitSound_phase _ (.inr rfl)
      silent := fun hs => by
        rw [enterListen_node] at hs
        cases hs
      acting :=
        { clock := h.clock.congr (enterListen_frame use s).2.2.1
          queue := queueSound_empty _ (by rw [(enterListen_frame use s).2.2.2.2.1, h.queue]; rfl)
          occupancy := (h.occupied use).congr (by simp [enterListen_eq]) (by simp [enterListen_eq])
          heads := recomputeWhere_sound _ _ _ hfresh (h.occupied use) }
      lanes := by
        unfold LanesSound
        rw [enterListen_lanes, (enterListen_frame use s).1]
        exact h.lanesSound use
      peers := by
        unfold PeersSound
        rw [enterListen_presence, enterListen_node]
        exact h.peers
      inputs := fun i => by
        rw [enterListen_inputs, senseInputs_record, senseInputs_config, enterListen_node, h.inputs i]
        exact ⟨inputSound_sensed _ _, fun hc => by cases hc⟩ }

end Handed

/-! ## The end of LOADING -/

/-- A node in LOADING whose last byte write is done (R164). -/
structure Written (s : State) : Prop where
  stage : s.node.loading ≠ .ended
  powered : s.pins.supply = true
  released : s.pins.resetLine = false
  array : StoreWf s
  idle : s.store.write = .idle
  quiet : LoadingQuiet s

namespace Written
variable {s : State} (h : Written s)
include h

/-- The SELF record is the one of the configuration's station (R67). -/
theorem handConfiguration_peers (c : Configuration) : PeersSound (handConfiguration c s) := by
  obtain ⟨_, _, hpresence, _⟩ := h.quiet h.stage
  have hreset (n : Station) : s.presence.peers[n] = .reset := by
    rw [hpresence]
    exact replicate_get _ n
  intro n
  show peerSound (update s.presence.peers c.station { s.presence.peers[c.station] with state := .self })[n] = true ∧
    ((update s.presence.peers c.station { s.presence.peers[c.station] with state := .self })[n].state = .self ↔ some c.station = some n)
  rw [update_get, hreset, hreset]
  split
  · next hn => exact ⟨by decide, iff_of_true rfl (congrArg some hn.symm)⟩
  · next hn => exact ⟨by decide, iff_of_false (by decide) fun heq => hn (Option.some.inj heq).symm⟩

theorem handConfiguration (c : Configuration) (hc : c.percentsInRange) : Handed (handConfiguration c s) := by
  have hpeers := h.handConfiguration_peers c
  obtain ⟨hlanes, _, _, hzones, hunit, htx, hoccupancy, hinputs, hheads, _⟩ := h.quiet h.stage
  exact
    { ended := rfl
      powered := h.powered
      released := h.released
      array := h.array
      idle := h.idle
      lanes := hlanes
      unit := hunit
      queue := htx
      clock := by
        unfold ClockSound Machine.handConfiguration
        rw [hzones]
        exact reset_clockSound
      peers := hpeers
      percents := hc
      occupancy := fun z => (congrArg (fun u : OccupancyUnit => u.records[z]) hoccupancy).trans (replicate_get _ z)
      inputs := fun i => (congrArg (fun u : InputUnit => u.records[i]) hinputs).trans (replicate_get _ i)
      channels := fun ch => (congrArg (fun u : HeadUnit => u.channels[ch]) hheads).trans (replicate_get _ ch)
      outputs := fun ch => (congrArg (fun u : HeadUnit => u.outputs[ch]) hheads).trans (replicate_get _ ch) }

theorem invalidHanded (d : ConfigDetail) : Handed (invalidHanded d s) := by
  obtain ⟨hlanes, _, hpresence, hzones, hunit, htx, hoccupancy, hinputs, hheads, _⟩ := h.quiet h.stage
  exact
    { ended := rfl
      powered := h.powered
      released := h.released
      array := h.array
      idle := h.idle
      lanes := hlanes
      unit := hunit
      queue := htx
      clock := by
        unfold ClockSound Machine.invalidHanded handInvalid
        rw [hzones]
        exact reset_clockSound
      peers := fun n => by
        show peerSound s.presence.peers[n] = true ∧ (s.presence.peers[n].state = .self ↔ none = some n)
        rw [hpresence]
        exact reset_peersSound n
      percents := fun z => by
        show (Vector.replicate 32 OccupancyConfig.zero)[z].percent ≤ 100
        rw [replicate_get]
        exact Nat.zero_le _
      occupancy := fun z => (congrArg (fun u : OccupancyUnit => u.records[z]) hoccupancy).trans (replicate_get _ z)
      inputs := fun i => (congrArg (fun u : InputUnit => u.records[i]) hinputs).trans (replicate_get _ i)
      channels := fun ch => (congrArg (fun u : HeadUnit => u.channels[ch]) hheads).trans (replicate_get _ ch)
      outputs := fun ch => (congrArg (fun u : HeadUnit => u.outputs[ch]) hheads).trans (replicate_get _ ch) }

/-- LOADING ends in a sound phase, whatever validation found (R159, R166). -/
theorem endLoading (found : Validation) (hpercents : ∀ c, found = .valid c → c.percentsInRange) : Working (endLoading found s) := by
  cases found with
  | invalid d =>
    rw [endLoading_invalid]
    exact (h.invalidHanded d).commission _
  | valid c =>
    have hhanded := h.handConfiguration c (hpercents c rfl)
    cases hsetup : s.node.setupSample with
    | true =>
      rw [endLoading_valid_commission c s hsetup]
      exact hhanded.commission _
    | false =>
      rw [endLoading_valid_listen c s hsetup]
      exact hhanded.listen _ rfl

end Written

end Sys2Proof.Machine
end

section
/-! Every step keeps the node sound: O5. -/

namespace Sys2Proof.Machine

open Sys2Proof

/-- A table of equal records that a function leaves as they are. -/
theorem mapTable_replicate {α : Type} {n : Nat} (f : α → α) (x : α) (h : f x = x) : mapTable f (Vector.replicate n x) = Vector.replicate n x := by
  apply Vector.ext
  intro i hi
  simp [h]

/-- A configuration that validation finds is in range (R118, R165). -/
theorem validate_percents (m : Memory) (c : Configuration) (h : validate m = .valid c) : c.percentsInRange := by
  have hread : readConfiguration m = some c := by
    unfold validate at h
    split at h
    · cases h
    · split at h
      · cases h
      · split at h
        · cases h
        · next hc =>
          cases h
          exact hc
  intro z
  obtain ⟨⟨_, hpercent⟩, _, _, _, hvalue, _⟩ := parseOccupancy_eq_some.mp ((readConfiguration_eq_some.mp hread).occupancy z)
  omega

/-- A byte write that time passes by is the same write, nearer its end. -/
theorem WriteState.after_eq_writing {w : WriteState} {n m : Nat} {a : Fin 2048} {v : Byte} (h : w.after n = .writing a v m) :
    ∃ k, w = .writing a v k := by
  cases w with
  | idle => cases h
  | writing b u k =>
    cases h
    exact ⟨k, rfl⟩

namespace Starting
variable {s : State}

/-! ## Time, lines and the port -/

theorem setPending (h : Starting s) (x : List Instr) : Starting (s.setPending x) :=
  ⟨h.stage, h.phase, h.held, h.closed, h.array, ⟨h.write.where_, h.write.under, h.write.percents⟩, h.quiet⟩

theorem setPort (h : Starting s) (x : Transaction) (hx : s.node.loading ≠ .held) : Starting (s.setPort x) :=
  ⟨h.stage, h.phase, h.held, fun hheld => absurd hheld hx, h.array, ⟨h.write.where_, h.write.under, h.write.percents⟩, h.quiet⟩

theorem setPins (h : Starting s) (x : Pins) (hs : x.supply = s.pins.supply) (hr : x.resetLine = s.pins.resetLine) : Starting (s.setPins x) :=
  ⟨h.stage, h.phase, by rw [State.setPins_pins, hs, hr]; exact h.held, h.closed, h.array,
    ⟨h.write.where_, h.write.under, h.write.percents⟩, h.quiet⟩

/-- No timer runs: time passes by the byte write alone. -/
theorem passBy (h : Starting s) (n : Nat) : Starting (passBy n s) where
  stage := h.stage
  phase := h.phase
  held := h.held
  closed := h.closed
  array := h.array
  write :=
    { where_ := fun a v m hw => by
        obtain ⟨k, hk⟩ := WriteState.after_eq_writing (w := s.store.write) hw
        exact h.write.where_ a v k hk
      under := fun found hf => by
        have hunder := h.write.under found hf
        unfold ConfigStore.isWriting at hunder ⊢
        rw [passBy_store]
        cases hw : s.store.write with
        | idle => simp [hw] at hunder
        | writing a v k => rfl
      percents := h.write.percents }
  quiet := fun hne => by
    obtain ⟨hlanes, hfilter, hpresence, hzones, hunit, htx, hoccupancy, hinputs, hheads, hevents, hstation⟩ := h.quiet hne
    refine ⟨hlanes, hfilter, ?_, hzones, ?_, htx, ?_, ?_, ?_, hevents, hstation⟩
    · simp only [Machine.passBy, hpresence]
      rfl
    · simp only [Machine.passBy, hunit]
      rfl
    · simp only [Machine.passBy, hoccupancy]
      exact congrArg (OccupancyUnit.mk _) (mapTable_replicate _ _ rfl)
    · simp only [Machine.passBy, hinputs]
      exact congrArg (InputUnit.mk _) (mapTable_replicate _ _ rfl)
    · simp only [Machine.passBy, hheads]
      rfl

/-! ## LOADING -/

theorem loadingReadDone (h : Starting s) (t : State) (ht : execLoadingReadDone s = .next t) : Starting t := by
  unfold execLoadingReadDone at ht
  dsimp only at ht
  split at ht
  · next hreading =>
    refine Host.Outcome.next.inj ht ▸
      { stage := LoadingStage.noConfusion
        phase := h.phase
        held := iff_of_false LoadingStage.noConfusion (mt h.held.mpr (by simp [hreading.2]))
        closed := fun hheld => by cases hheld
        array := h.array
        write := ⟨fun a v n hw => ?_, fun _ _ => rfl, fun c hc => validate_percents _ c (LoadingStage.checked.inj hc)⟩
        quiet := fun _ => h.quiet h.stage }
    cases hw
    exact .inr ⟨h.phase, LoadingStage.noConfusion, LoadingStage.noConfusion, Nat.zero_le _⟩
  · exact Host.Outcome.next.inj ht ▸ h

/-- The start counter's second byte, and the end of LOADING after it (R164). -/
theorem startCounterWriteDone (h : Starting s) (t : State) (ht : execStartCounterWriteDone s = .next t) : Sound t := by
  unfold execStartCounterWriteDone at ht
  split at ht
  · next found a v n hf hw =>
    have hpassed : Starting (endOfWrite s) := h.passBy _
    have harray := write_wf _ a v hpassed.array.1
    have hreleased : ¬ (s.pins.supply = false ∨ s.pins.resetLine = true) := mt h.held.mpr (by simp [hf])
    rw [not_or, Bool.not_eq_false, Bool.not_eq_true] at hreleased
    dsimp only at ht
    split at ht
    · refine Host.Outcome.next.inj ht ▸ Starting.sound
        { stage := h.stage
          phase := h.phase
          held := h.held
          closed := h.closed
          array := ⟨harray, h.array.2⟩
          write := ⟨fun b u m hwrite => ?_, fun _ _ => rfl, h.write.percents⟩
          quiet := hpassed.quiet }
      cases hwrite
      exact .inr ⟨h.phase, by simp [hf], by simp [hf], le_refl _⟩
    · have hwritten : Written ((endOfWrite s).setStore
          { (endOfWrite s).store with array := Memory.write (endOfWrite s).store.array a v, write := .idle }) :=
        ⟨h.stage, hreleased.1, hreleased.2, ⟨harray, h.array.2⟩, rfl, hpassed.quiet⟩
      exact Host.Outcome.next.inj ht ▸ (hwritten.endLoading found fun c hc => h.write.percents c (hc ▸ hf)).sound
  · exact Host.Outcome.next.inj ht ▸ h.sound

/-! ## Commands that LOADING leaves without effect -/

theorem lane_disabled (h : Starting s) (L : Lane) : (s.lanes.get L).state = .disabled := by
  rw [(h.quiet h.stage).1]
  cases L <;> rfl

theorem queue_empty (h : Starting s) : s.tx.records = [] := by
  obtain ⟨_, _, _, _, _, htx, _⟩ := h.quiet h.stage
  rw [htx]
  rfl

theorem occupancy_reset (h : Starting s) (z : Zone) : s.occupancy.records[z] = .reset := by
  obtain ⟨_, _, _, _, _, _, hoccupancy, _⟩ := h.quiet h.stage
  rw [hoccupancy]
  exact replicate_get _ z

theorem input_reset (h : Starting s) (i : Line) : s.inputs.records[i] = .reset := by
  obtain ⟨_, _, _, _, _, _, _, hinputs, _⟩ := h.quiet h.stage
  rw [hinputs]
  exact replicate_get _ i

theorem failAttempt (h : Starting s) (L : Lane) : Machine.failAttempt L s = s :=
  failAttempt_none L s (by simp [h.queue_empty])

theorem frameReceived (h : Starting s) (L : Lane) (bytes : List Byte) : exec (.frameReceived L bytes) s = .next s := by
  refine exec_frameReceived_deaf L bytes s ?_
  by_contra hr
  exact laneReceives_enabled L s (Bool.not_eq_false _ ▸ hr) (h.lane_disabled L)

/-- With the lanes DISABLED and the queue empty a fault line rises and nothing more happens. -/
theorem laneFaultAssert (h : Starting s) (L : Lane) (t : State) (ht : execLaneFaultAssert L s = .next t) : Starting t := by
  unfold execLaneFaultAssert at ht
  split at ht
  · exact Host.Outcome.next.inj ht ▸ h
  · have hrisen : Starting (setFaultLine L true s) := h.setPins _ rfl rfl
    dsimp only at ht
    rw [abandonInFlight_idle (by simp [h.queue_empty]), if_neg (by rw [hrisen.lane_disabled L]; decide),
      settle_live _ (by simp [h.queue_empty])] at ht
    exact Host.Outcome.next.inj ht ▸ hrisen

theorem inputLevelChange (h : Starting s) (i : Line) (high : Bool) (t : State) (ht : execInputLevelChange i high s = .next t) :
    Starting t := by
  unfold execInputLevelChange at ht
  split at ht
  · exact Host.Outcome.next.inj ht ▸ h
  · dsimp only at ht
    rw [h.phase] at ht
    exact Host.Outcome.next.inj ht ▸ h.setPins _ rfl rfl

theorem serve {α : Type} {which : Screening} {arg : Option α} {act : α → State → Served} {t : State} (h : Starting s)
    (hact : which.isStatus = true → ∀ x, (act x s).state = s) (ht : serve which arg act s = .next t) : Starting t := by
  have hsame : (screen which arg act s).state = s := by
    rcases screen_passed which arg act s with hrefused | ⟨x, _, hstatus, _, hserved⟩
    · exact hrefused
    · rw [hserved]
      exact hact (hstatus h.phase) x
  unfold Machine.serve at ht
  split at ht
  · next hport =>
    dsimp only at ht
    rw [hsame] at ht
    refine Host.Outcome.next.inj ht ▸ h.setPort _ fun hheld => ?_
    rw [h.closed hheld] at hport
    cases hport
  · exact Host.Outcome.next.inj ht ▸ h
  · exact Host.Outcome.next.inj ht ▸ h

/-- A request but STATUS is refused (R184). -/
theorem refused {α : Type} {which : Screening} {arg : Option α} {act : α → State → Served} {t : State} (h : Starting s)
    (hw : which.isStatus = false) (ht : Machine.serve which arg act s = .next t) : Starting t :=
  h.serve (fun hs => absurd hs (by simp [hw])) ht

theorem badRequest (h : Starting s) (code : Byte) (t : State) (ht : execBadRequest code s = .next t) : Starting t := by
  unfold execBadRequest at ht
  split at ht
  · next hopen =>
    refine Host.Outcome.next.inj ht ▸ h.setPort _ fun hheld => ?_
    have hclosed := h.closed hheld
    rw [hopen.1] at hclosed
    cases hclosed
  · exact Host.Outcome.next.inj ht ▸ h

theorem chipSelectAssert (h : Starting s) (t : State) (ht : execChipSelectAssert s = .next t) : Starting t := by
  unfold execChipSelectAssert at ht
  split at ht
  · next hopens => exact Host.Outcome.next.inj ht ▸ h.setPort _ hopens.2
  · exact Host.Outcome.next.inj ht ▸ h

/-- A command that has no effect. -/
theorem still (h : Starting s) {c : Instr} {t : State} (ht : exec c s = .next t) (hs : exec c s = .next s) : Sound t := by
  rw [hs] at ht
  exact Host.Outcome.next.inj ht ▸ h.sound

end Starting

/-! ## Every command -/

/-- A command in LOADING: it has no effect, moves a line or the port, or carries LOADING on. -/
theorem Starting.exec {s : State} (h : Starting s) (c : Instr) (t : State) (ht : exec c s = .next t) : Sound t := by
  obtain ⟨_, _, hpresence, _, hunit, _, _, _, hheads, _⟩ := h.quiet h.stage
  cases c with
  | powerOn => exact h.sound.powerOn t ht
  | lossOfSupply => exact h.sound.lossOfSupply t ht
  | resetLineAssert => exact h.sound.resetLineAssert t ht
  | resetLineRelease => exact h.sound.resetLineRelease t ht
  | setupLineChange high => exact Host.Outcome.next.inj ht ▸ (h.setPins { s.pins with setupLine := high } rfl rfl).sound
  | loadingReadDone => exact (h.loadingReadDone t ht).sound
  | startCounterWriteDone => exact h.startCounterWriteDone t ht
  | frameReceived L bytes => exact h.still ht (h.frameReceived L bytes)
  | copyStart L => exact h.still ht (exec_copyStart_nothing L s (by simp [h.queue_empty]))
  | contestLost L => exact h.still ht (congrArg Host.Outcome.next (h.failAttempt L))
  | copyEndNothingTakenBack L => exact h.still ht (congrArg Host.Outcome.next (h.failAttempt L))
  | laneFaultAssert L => exact (h.laneFaultAssert L t ht).sound
  | laneFaultClear L => exact Host.Outcome.next.inj ht ▸ Starting.sound (h.setPins _ rfl rfl)
  | presenceExpiry => exact h.still ht (guarded_stopped _ s (by rw [hpresence]; rfl))
  | catchUpWindowExpiry => exact h.still ht (guarded_stopped _ s (by rw [hunit]; rfl))
  | backoffExpiry => exact h.still ht (guarded_stopped _ s (by rw [hunit]; rfl))
  | graceExpiry z => exact h.still ht (if_neg fun hdue => by rw [h.occupancy_reset z] at hdue; cases hdue.1)
  | vacantExpiry z => exact h.still ht (if_neg fun hdue => by rw [h.occupancy_reset z] at hdue; cases hdue.1)
  | inputLevelChange i high => exact (h.inputLevelChange i high t ht).sound
  | debounceExpiry i => exact h.still ht (guarded_stopped _ s (by rw [h.input_reset i]; rfl))
  | repeatExpiry i => exact h.still ht (guarded_stopped _ s (by rw [h.input_reset i]; rfl))
  | refreshExpiry i => exact h.still ht (guarded_stopped _ s (by rw [h.input_reset i]; rfl))
  | fadeTick => exact h.still ht (guarded_stopped _ s (by rw [hheads]; rfl))
  | pwmPeriodStart => exact h.still ht (guarded_stopped _ s (by rw [hheads]; rfl))
  | status => exact (h.serve (fun _ _ => rfl) ht).sound
  | nextEvent => exact (h.refused rfl ht).sound
  | publishSet zone r g b level options => exact (h.refused rfl ht).sound
  | publishRecall look options => exact (h.refused rfl ht).sound
  | publishOccupy zones => exact (h.refused rfl ht).sound
  | readZone zone => exact (h.refused rfl ht).sound
  | readPeer station => exact (h.refused rfl ht).sound
  | readHead head => exact (h.refused rfl ht).sound
  | capture => exact (h.refused rfl ht).sound
  | readCounter first count => exact (h.refused rfl ht).sound
  | configPoint address => exact (h.refused rfl ht).sound
  | configRead count => exact (h.refused rfl ht).sound
  | configWrite value => exact (h.refused rfl ht).sound
  | configWriteDone => exact h.still ht (exec_configWriteDone_unwritten s (.inl h.phase))
  | restart => exact (h.refused rfl ht).sound
  | badRequest code => exact (h.badRequest code t ht).sound
  | chipSelectAssert => exact (h.chipSelectAssert t ht).sound
  | chipSelectRelease => exact h.sound.chipSelectRelease t ht

/-- A command once LOADING has ended. -/
theorem Working.exec {s : State} (h : Working s) (c : Instr) (t : State) (ht : exec c s = .next t) : Sound t := by
  cases c with
  | powerOn => exact h.sound.powerOn t ht
  | lossOfSupply => exact h.sound.lossOfSupply t ht
  | resetLineAssert => exact h.sound.resetLineAssert t ht
  | resetLineRelease => exact h.sound.resetLineRelease t ht
  | setupLineChange high => exact Host.Outcome.next.inj ht ▸ (h.setPins { s.pins with setupLine := high } ⟨rfl, rfl⟩ h.lanes).sound
  | loadingReadDone =>
    have hstill : Machine.exec .loadingReadDone s = .next s := if_neg fun hl => h.node.out hl.1
    rw [hstill] at ht
    exact Host.Outcome.next.inj ht ▸ h.sound
  | startCounterWriteDone =>
    rw [exec_startCounterWriteDone_unwritten s (.inl (by simp [h.node.ended]))] at ht
    exact Host.Outcome.next.inj ht ▸ h.sound
  | frameReceived L bytes => exact (h.frameReceived L bytes t ht).sound
  | copyStart L => exact (h.copyStart L t ht).sound
  | contestLost L => exact Host.Outcome.next.inj ht ▸ (h.failAttempt L).sound
  | copyEndNothingTakenBack L => exact Host.Outcome.next.inj ht ▸ (h.failAttempt L).sound
  | laneFaultAssert L => exact (h.laneFaultAssert L t ht).sound
  | laneFaultClear L => exact Host.Outcome.next.inj ht ▸ (h.laneFaultClear L).sound
  | presenceExpiry => exact (h.presenceExpiry t ht).sound
  | catchUpWindowExpiry => exact (h.catchUpWindowExpiry t ht).sound
  | backoffExpiry => exact (h.backoffExpiry t ht).sound
  | graceExpiry z => exact (h.graceExpiry z t ht).sound
  | vacantExpiry z => exact (h.vacantExpiry z t ht).sound
  | inputLevelChange i high => exact (h.inputLevelChange i high t ht).sound
  | debounceExpiry i => exact (h.debounceExpiry i t ht).sound
  | repeatExpiry i => exact (h.repeatExpiry i t ht).sound
  | refreshExpiry i => exact (h.refreshExpiry i t ht).sound
  | fadeTick => exact (h.fadeTick t ht).sound
  | pwmPeriodStart => exact (h.pwmPeriodStart t ht).sound
  | status => exact (h.serve_of_act (fun _ => h) ht).sound
  | nextEvent => exact (h.nextEvent ht).sound
  | publishSet zone r g b level options => exact (h.serve_of_act (fun _ => h.requestByPhase _) ht).sound
  | publishRecall look options => exact (h.serve_of_act (fun _ => h.requestByPhase _) ht).sound
  | publishOccupy zones => exact (h.serve_of_act (fun _ => h.requestOccupy _ _) ht).sound
  | readZone zone => exact (h.serve_of_act (fun _ => h) ht).sound
  | readPeer station => exact (h.serve_of_act (fun _ => h.setFilter _) ht).sound
  | readHead head => exact (h.serve_of_act (fun _ => h) ht).sound
  | capture => exact (h.serve_of_act (fun _ => h.setCounters _) ht).sound
  | readCounter first count => exact (h.serve_of_act (fun _ => h) ht).sound
  | configPoint address => exact (h.configPoint address ht).sound
  | configRead count => exact (h.configRead count ht).sound
  | configWrite value => exact (h.configWrite value ht).sound
  | configWriteDone => exact (h.configWriteDone ht).sound
  | restart => exact (h.serve_of_act (fun _ => h) ht).sound
  | badRequest code => exact (h.badRequest code ht).sound
  | chipSelectAssert => exact (h.chipSelectAssert ht).sound
  | chipSelectRelease => exact h.sound.chipSelectRelease t ht

namespace Sound
variable {s : State}

theorem exec (h : Sound s) (c : Instr) (t : State) (ht : exec c s = .next t) : Sound t := by
  by_cases he : s.node.loading = .ended
  · exact (h.working he).exec c t ht
  · exact (h.starting he).exec c t ht

theorem setPending (h : Sound s) (x : List Instr) : Sound (s.setPending x) := by
  by_cases he : s.node.loading = .ended
  · exact ((h.working he).setPending x).sound
  · exact ((h.starting he).setPending x).sound

theorem passTime (h : Sound s) : Sound (passTime s) := by
  unfold Machine.passTime
  split
  · by_cases he : s.node.loading = .ended
    · exact ((h.working he).passBy 1).sound
    · exact ((h.starting he).passBy 1).sound
  · exact h

end Sound

/-- Settles O5: the command at the front of the queue, or time passing, in LOADING (`Starting`) and after its end (`Working`). -/
theorem everyStepKeepsTheNodeSound : Obligations.EveryStepKeepsTheNodeSound := by
  unfold Obligations.EveryStepKeepsTheNodeSound
  intro s t hs ht
  unfold step at ht
  split at ht
  · exact Host.Outcome.next.inj ht ▸ hs.passTime
  · next c rest _ => exact (hs.setPending rest).exec c t ht

end Sys2Proof.Machine
end
